-- ==== Sys2Proof/Word.lean ====
section
/-! DEFINITION. The word types of the block (spec/10_state.md, spec/00_scope.md R14): all values are unsigned. -/

namespace Sys2Proof

/-- One byte of a stream. -/
abbrev Byte := BitVec 8

/-- A transport word: WidthConverter output, BurstBuffer entry, host word (R8). -/
abbrev Word := BitVec 32

/-- A `timeDelta`, the width of ElapsedCounter (R8: `W` = 28). -/
abbrev Delta := BitVec 28

/-- A record slot of five bytes (R100). -/
abbrev Slot := BitVec 40

end Sys2Proof
end

