-- ==== Sys2Proof/Config.lean ====
section
/-! DEFINITION. What is constant in a run: the five configuration inputs (R9) and the structural parameters (R10). -/

namespace Sys2Proof

/-- Which FramingEncoder is built (R10, R150). -/
inductive FeVariant where
  | serial
  | parallel
deriving DecidableEq, Repr

/-- Configuration inputs (R9) and structural parameters (R10), constants of a run (R21). -/
structure Config where
  /-- `FE_VARIANT` (R10). -/
  feVariant : FeVariant
  /-- `TA_CLEAR_RESETS_COUNT` (R10, R127). -/
  clearResetsCount : Bool
  /-- `TF_TIMER_RESTART_ON_WORD` (R10, R238). -/
  timerRestartOnWord : Bool
  /-- `BB_DEPTH`, in words (R10, R215). -/
  bbDepth : Nat
  /-- `TF_CAPACITY`, in words (R10, R230). -/
  tfCapacity : Nat
  /-- `cfg_depth` (R9, R232). -/
  depth : Nat
  /-- `cfg_idle_timeout` (R9, R232). -/
  idleTimeout : BitVec 32
  /-- `cfg_resync_pattern` (R9, R201). -/
  resyncPattern : Slot
  /-- `cfg_resync_len` (R9, R201). -/
  resyncLen : BitVec 3
  /-- `cfg_resync_repeat` (R9, R202). -/
  resyncRepeat : BitVec 8
deriving DecidableEq, Repr

/-- The spec's defaults (R9, R10). DESIGN CHOICE (log entry 2) where the spec has none: `depth` 8 (the source's test),
`bbDepth` 4 and `tfCapacity` 16 (the scenarios of spec/95_test_vectors.md). -/
def Config.default : Config where
  feVariant := .parallel
  clearResetsCount := true
  timerRestartOnWord := false
  bbDepth := 4
  tfCapacity := 16
  depth := 8
  idleTimeout := 1000000
  resyncPattern := 0x0000E00050
  resyncLen := 3
  resyncRepeat := 4

end Sys2Proof
end

