-- ==== Sys2Proof/Syntax.lean ====
section
/-! DEFINITION. The rows of spec/opcode_table.json as one inductive (R114, R115): the wire forms with the values their bytes
carry, and the operations, whose operands are ports and registers. -/

namespace Sys2Proof

/-- The four record types (R97). -/
inductive RecType where
  | overflow
  | event
  | data
  | control
deriving DecidableEq, Repr

/-- A record as the arbiter creates it: type with `timeDelta`, `timeLen` and payload snapshots (R19, R26, R151). -/
structure Record where
  typ : RecType
  delta : Delta
  len : BitVec 2
  payload : Byte
deriving DecidableEq, Repr

/-- One constructor per row of the opcode table. A timed record form carries the bits of `timeDelta` its bytes carry
(4, 12, 20 or 28) and its payload byte. -/
inductive Instr where
  | ovf (ts : BitVec 24)
  | evtT0 (delta : BitVec 4) (code : Byte)
  | evtT1 (delta : BitVec 12) (code : Byte)
  | evtT2 (delta : BitVec 20) (code : Byte)
  | evtT3 (delta : BitVec 28) (code : Byte)
  | datT0 (delta : BitVec 4) (byte : Byte)
  | datT1 (delta : BitVec 12) (byte : Byte)
  | datT2 (delta : BitVec 20) (byte : Byte)
  | datT3 (delta : BitVec 28) (byte : Byte)
  | ctlT0 (delta : BitVec 4) (byte : Byte)
  | ctlT1 (delta : BitVec 12) (byte : Byte)
  | ctlT2 (delta : BitVec 20) (byte : Byte)
  | ctlT3 (delta : BitVec 28) (byte : Byte)
  | rsy
  | frameLength (length : Word)
  | frameTimestamp (timestamp : Word)
  | framePayload (word : Word)
  | tick
  | consume
  | clearOverflow
  | write
  | ack
  | selectOverflow
  | selectEvent
  | selectData
  | selectControl
  | start
  | push
  | pop
  | flush
  | reset
deriving DecidableEq, Repr

/-- The strobe lines of R115, one per operation row of the table. -/
inductive Strobe where
  | tick
  | consume
  | clearOverflow
  | write
  | ack
  | selectOverflow
  | selectEvent
  | selectData
  | selectControl
  | start
  | push
  | pop
  | flush
  | reset
deriving DecidableEq, Repr

/-- Where in a frame a host word stands (R111); the three frame words differ in nothing else. -/
inductive FramePos where
  | length
  | timestamp
  | payload
deriving DecidableEq, Repr

/-- Where an encoding stands (R90, R115): on the record stream, on the host port at a position of a frame, or on one strobe
line. The bits alone do not say it: every strobe word is the same single 1, and the frame words have no fixed bit. -/
inductive Port where
  | stream
  | host (pos : FramePos)
  | line (strobe : Strobe)
deriving DecidableEq, Repr

/-- An encoded instruction: its bytes, first on the wire first, and the port they stand on. -/
structure Issue where
  port : Port
  bytes : List Byte
deriving DecidableEq, Repr

end Sys2Proof
end

