-- ==== Sys2Proof/WellFormed.lean ====
section
/-! DEFINITION. Which instructions the block can produce: the minimal time length of R99, the fixed Overflow record of R98 and
the frame length of R110. The decoder reads the other forms of the grammar too (log entry 7). -/

namespace Sys2Proof

/-- The forms the block can produce (R98, R99, R104, R110): an Overflow record is all ones, a record with `timeLen = k > 0`
has a non-zero last timestamp byte, a frame length is `8 + 4n` with `n ≥ 1`. -/
def Instr.wellFormed : Instr → Bool
  | .ovf ts => ts == 0xFFFFFF
  | .evtT0 _ _ => true
  | .evtT1 d _ => decide (16 ≤ d.toNat)
  | .evtT2 d _ => decide (4096 ≤ d.toNat)
  | .evtT3 d _ => decide (1048576 ≤ d.toNat)
  | .datT0 _ _ => true
  | .datT1 d _ => decide (16 ≤ d.toNat)
  | .datT2 d _ => decide (4096 ≤ d.toNat)
  | .datT3 d _ => decide (1048576 ≤ d.toNat)
  | .ctlT0 _ _ => true
  | .ctlT1 d _ => decide (16 ≤ d.toNat)
  | .ctlT2 d _ => decide (4096 ≤ d.toNat)
  | .ctlT3 d _ => decide (1048576 ≤ d.toNat)
  | .rsy => true
  | .frameLength l => decide (12 ≤ l.toNat) && l.toNat % 4 == 0
  | .frameTimestamp _ => true
  | .framePayload _ => true
  | .tick => true
  | .consume => true
  | .clearOverflow => true
  | .write => true
  | .ack => true
  | .selectOverflow => true
  | .selectEvent => true
  | .selectData => true
  | .selectControl => true
  | .start => true
  | .push => true
  | .pop => true
  | .flush => true
  | .reset => true

end Sys2Proof
end

