-- ==== Sys2Proof/Decode.lean ====
section
/-! DEFINITION. The packing of R16 and R66, the record encoding of R91 to R95, the decoder of every port (R96, R103, R110,
R115), total on any bytes and rejecting by name, and the encoder. Header fields are taken by division and remainder:
`header = 64·type + 16·timeLen + timeDelta[3:0]` (R91). -/

namespace Sys2Proof

/-- The number whose bytes are `bs`, first byte least significant (R16). -/
def packNat : List Byte → Nat
  | [] => 0
  | b :: bs => b.toNat + 256 * packNat bs

/-- `pack` of R16: byte `i` in bits `8i+7 .. 8i`, zeros above. -/
def pack (w : Nat) (bs : List Byte) : BitVec w := BitVec.ofNat w (packNat bs)

/-- The `n` lowest bytes of a number, least significant first. -/
def unpackNat : Nat → Nat → List Byte
  | 0, _ => []
  | n + 1, v => BitVec.ofNat 8 v :: unpackNat n (v / 256)

/-- `unpack(v, n)` of R16: the first `n` bytes of `v`. -/
def unpack {w : Nat} (v : BitVec w) (n : Nat) : List Byte := unpackNat n v.toNat

/-- The record type code, header bits 7..6 (R91). -/
def RecType.code : RecType → Nat
  | .overflow => 0
  | .event => 1
  | .data => 2
  | .control => 3

/-- The header byte `{type, timeLen, timeDelta[3:0]}` (R91). -/
def headerByte (t : RecType) (delta : Delta) (len : BitVec 2) : Byte :=
  BitVec.ofNat 8 (64 * t.code + 16 * len.toNat + delta.toNat % 16)

/-- The timestamp bytes: byte `i` is `timeDelta[8i+11 : 8i+4]` (R92). -/
def timestampBytes (delta : Delta) (len : BitVec 2) : List Byte :=
  unpackNat len.toNat (delta.toNat / 16)

/-- The payload byte, absent for Overflow (R93). -/
def payloadBytes (t : RecType) (payload : Byte) : List Byte :=
  match t with
  | .overflow => []
  | .event => [payload]
  | .data => [payload]
  | .control => [payload]

/-- `enc(type, delta, tlen, payload)` of R95. -/
def enc (t : RecType) (delta : Delta) (len : BitVec 2) (payload : Byte) : List Byte :=
  headerByte t delta len :: (timestampBytes delta len ++ payloadBytes t payload)

/-- The bytes of a record (R95). -/
def Record.bytes (r : Record) : List Byte := enc r.typ r.delta r.len r.payload

/-- `byteCount` from the header byte alone, total on all 256 values (R103). -/
def byteCountOfHeader (h : Byte) : Nat :=
  1 + h.toNat / 16 % 4 + (if h.toNat / 64 = 0 then 0 else 1)

/-- `byteCount = 1 + timeLen + (type ≠ 0 ? 1 : 0)` (R94). -/
def byteCount (t : RecType) (len : BitVec 2) : Nat :=
  1 + len.toNat + (if t = .overflow then 0 else 1)

/-- Why the decoder rejects bytes. -/
inductive DecodeError where
  /-- No byte is there. -/
  | empty
  /-- A record header 0x00 .. 0x3E, which no row of the table matches and FramingEncoder never produces (R104, U7). -/
  | neverProducedHeader (header : Byte)
  /-- Fewer bytes than the header byte announces (R103), or than the four of a frame word (R110). -/
  | truncated
  /-- The strobe line is low: bit 0 of its word is 0 (R114: match 1, mask 1). -/
  | strobeLow
deriving DecidableEq, Repr

/-- What the decoder answers: an instruction with the bytes after it, or a rejection by name. -/
inductive Decoded where
  | instr (i : Instr) (rest : List Byte)
  | rejected (e : DecodeError)
deriving DecidableEq, Repr

/-- The record form of a header's type code and `timeLen`, with `timeDelta` and payload assembled as R96 says. Type code 0
reaches here with header 0x3F only, so its `timeLen` is 3. -/
def recordForm (typeCode len : Nat) (delta : Nat) (payload : Byte) : Instr :=
  match typeCode, len with
  | 0, _ => .ovf (BitVec.ofNat 24 (delta / 16))
  | 1, 0 => .evtT0 (BitVec.ofNat 4 delta) payload
  | 1, 1 => .evtT1 (BitVec.ofNat 12 delta) payload
  | 1, 2 => .evtT2 (BitVec.ofNat 20 delta) payload
  | 1, _ => .evtT3 (BitVec.ofNat 28 delta) payload
  | 2, 0 => .datT0 (BitVec.ofNat 4 delta) payload
  | 2, 1 => .datT1 (BitVec.ofNat 12 delta) payload
  | 2, 2 => .datT2 (BitVec.ofNat 20 delta) payload
  | 2, _ => .datT3 (BitVec.ofNat 28 delta) payload
  | _, 0 => .ctlT0 (BitVec.ofNat 4 delta) payload
  | _, 1 => .ctlT1 (BitVec.ofNat 12 delta) payload
  | _, 2 => .ctlT2 (BitVec.ofNat 20 delta) payload
  | _, _ => .ctlT3 (BitVec.ofNat 28 delta) payload

/-- The bytes of the default resync literal, in stream order (R69, R106). -/
def literalBytes : List Byte := [0x50, 0x00, 0xE0]

/-- One record or resync literal from the record stream (R96, R103). The literal `50 00 E0` is told apart from an Event
record by its zero timestamp byte (R107, R114). -/
def decodeRecord (bytes : List Byte) : Decoded :=
  match bytes with
  | [] => .rejected .empty
  | h :: rest =>
    if h.toNat < 0x3F then .rejected (.neverProducedHeader h)
    else if rest.length + 1 < byteCountOfHeader h then .rejected .truncated
    else if (h :: rest.take 2) = literalBytes then .instr .rsy (rest.drop 2)
    else
      let len := h.toNat / 16 % 4
      let delta := h.toNat % 16 + 16 * packNat (rest.take len)
      .instr (recordForm (h.toNat / 64) len delta (rest.getD len 0)) (rest.drop (byteCountOfHeader h - 1))

/-- One host word at a position of a frame, low byte first (R68, R110, R111). -/
def decodeFrameWord (pos : FramePos) (bytes : List Byte) : Decoded :=
  if bytes.length < 4 then .rejected .truncated
  else
    let w : Word := pack 32 (bytes.take 4)
    match pos with
    | .length => .instr (.frameLength w) (bytes.drop 4)
    | .timestamp => .instr (.frameTimestamp w) (bytes.drop 4)
    | .payload => .instr (.framePayload w) (bytes.drop 4)

/-- The operation of a strobe line (R115). -/
def Strobe.instr : Strobe → Instr
  | .tick => .tick
  | .consume => .consume
  | .clearOverflow => .clearOverflow
  | .write => .write
  | .ack => .ack
  | .selectOverflow => .selectOverflow
  | .selectEvent => .selectEvent
  | .selectData => .selectData
  | .selectControl => .selectControl
  | .start => .start
  | .push => .push
  | .pop => .pop
  | .flush => .flush
  | .reset => .reset

/-- A strobe word: only its bit 0 counts (R114: mask 1), and 1 asserts the line. -/
def decodeStrobe (strobe : Strobe) (bytes : List Byte) : Decoded :=
  match bytes with
  | [] => .rejected .empty
  | b :: rest => if b.toNat % 2 = 1 then .instr strobe.instr rest else .rejected .strobeLow

/-- The decoder: what stands on a port (R90, R115; log entries 5 and 7). -/
def decode (p : Issue) : Decoded :=
  match p.port with
  | .stream => decodeRecord p.bytes
  | .host pos => decodeFrameWord pos p.bytes
  | .line strobe => decodeStrobe strobe p.bytes

/-- Parse a record stream from a record start: up to `fuel` records, and the bytes left where it stops (R103, R173). -/
def decodeStream : Nat → List Byte → List Instr × List Byte
  | 0, bytes => ([], bytes)
  | fuel + 1, bytes =>
    match decodeRecord bytes with
    | .instr i rest => ((i :: (decodeStream fuel rest).1), (decodeStream fuel rest).2)
    | .rejected _ => ([], bytes)

/-- The record a wire form stands for; none for the rows that are no record. -/
def recordOf : Instr → Option Record
  | .ovf ts => some ⟨.overflow, BitVec.ofNat 28 (ts.toNat * 16 + 15), 3, 0⟩
  | .evtT0 d c => some ⟨.event, d.setWidth 28, 0, c⟩
  | .evtT1 d c => some ⟨.event, d.setWidth 28, 1, c⟩
  | .evtT2 d c => some ⟨.event, d.setWidth 28, 2, c⟩
  | .evtT3 d c => some ⟨.event, d.setWidth 28, 3, c⟩
  | .datT0 d b => some ⟨.data, d.setWidth 28, 0, b⟩
  | .datT1 d b => some ⟨.data, d.setWidth 28, 1, b⟩
  | .datT2 d b => some ⟨.data, d.setWidth 28, 2, b⟩
  | .datT3 d b => some ⟨.data, d.setWidth 28, 3, b⟩
  | .ctlT0 d b => some ⟨.control, d.setWidth 28, 0, b⟩
  | .ctlT1 d b => some ⟨.control, d.setWidth 28, 1, b⟩
  | .ctlT2 d b => some ⟨.control, d.setWidth 28, 2, b⟩
  | .ctlT3 d b => some ⟨.control, d.setWidth 28, 3, b⟩
  | .rsy => none
  | .frameLength _ => none
  | .frameTimestamp _ => none
  | .framePayload _ => none
  | .tick => none
  | .consume => none
  | .clearOverflow => none
  | .write => none
  | .ack => none
  | .selectOverflow => none
  | .selectEvent => none
  | .selectData => none
  | .selectControl => none
  | .start => none
  | .push => none
  | .pop => none
  | .flush => none
  | .reset => none

/-- A record's bytes on the record stream. -/
def encodeRecord (i : Instr) : Issue := ⟨.stream, ((recordOf i).map Record.bytes).getD []⟩

/-- An asserted strobe line: the one-bit word 1 (R114). -/
def encodeStrobe (strobe : Strobe) : Issue := ⟨.line strobe, [0x01]⟩

/-- The encoder: the bytes of an instruction and the port they stand on (R95, R106, R110, R115). -/
def encode : Instr → Issue
  | .ovf ts => encodeRecord (.ovf ts)
  | .evtT0 d c => encodeRecord (.evtT0 d c)
  | .evtT1 d c => encodeRecord (.evtT1 d c)
  | .evtT2 d c => encodeRecord (.evtT2 d c)
  | .evtT3 d c => encodeRecord (.evtT3 d c)
  | .datT0 d b => encodeRecord (.datT0 d b)
  | .datT1 d b => encodeRecord (.datT1 d b)
  | .datT2 d b => encodeRecord (.datT2 d b)
  | .datT3 d b => encodeRecord (.datT3 d b)
  | .ctlT0 d b => encodeRecord (.ctlT0 d b)
  | .ctlT1 d b => encodeRecord (.ctlT1 d b)
  | .ctlT2 d b => encodeRecord (.ctlT2 d b)
  | .ctlT3 d b => encodeRecord (.ctlT3 d b)
  | .rsy => ⟨.stream, literalBytes⟩
  | .frameLength l => ⟨.host .length, unpack l 4⟩
  | .frameTimestamp t => ⟨.host .timestamp, unpack t 4⟩
  | .framePayload w => ⟨.host .payload, unpack w 4⟩
  | .tick => encodeStrobe .tick
  | .consume => encodeStrobe .consume
  | .clearOverflow => encodeStrobe .clearOverflow
  | .write => encodeStrobe .write
  | .ack => encodeStrobe .ack
  | .selectOverflow => encodeStrobe .selectOverflow
  | .selectEvent => encodeStrobe .selectEvent
  | .selectData => encodeStrobe .selectData
  | .selectControl => encodeStrobe .selectControl
  | .start => encodeStrobe .start
  | .push => encodeStrobe .push
  | .pop => encodeStrobe .pop
  | .flush => encodeStrobe .flush
  | .reset => encodeStrobe .reset

/-- The port a bare table word is taken to stand on (DESIGN CHOICE, log entry 5): the table's frame words have 32 bits and are
told apart only by position, so a word that can be a length (`8 + 4n`, `n ≥ 1`, R110) is read as one and any other as payload;
a byte that is no record header of the table is read as the TICK line, the 14 strobe words being one and the same. -/
def tablePort (nbits w : Nat) : Port :=
  if nbits = 32 then
    if 12 ≤ w ∧ w % 4 = 0 then .host .length else .host .payload
  else if w % 256 < 0x3F then .line .tick
  else .stream

/-- A table word laid out in bytes, first byte least significant (R114), with zeros up to the longest instruction. -/
def tableIssue (nbits w : Nat) : Issue :=
  ⟨tablePort nbits (w % 2 ^ nbits), unpackNat 5 (w % 2 ^ nbits)⟩

/-- The instruction the decoder reads from a table word. -/
def decodeTableWord (nbits w : Nat) : Option Instr :=
  match decode (tableIssue nbits w) with
  | .instr i _ => some i
  | .rejected _ => none

end Sys2Proof
end

