-- ==== Sys2Proof/Machine/State.lean ====
section
/-! DEFINITION. All state the spec gives the block (spec/10_state.md R22 to R36), grouped by owning component, with the input
ports of the current cycle, the environment's ports to come, the bench's issue slot and the constant configuration as plain
data; the reset state (R47); the outcomes' reason types. -/

namespace Sys2Proof.Machine

/-- `fe_state` (R27): the serial variant uses all but `emit`, the parallel one `idle` and `emit`. -/
inductive FeState where
  | idle
  | header
  | timestamp
  | payload
  | emit
deriving DecidableEq, Repr

/-- `rpg_state` (R29). -/
inductive RpgState where
  | idle
  | pattern
deriving DecidableEq, Repr

/-- `wc_state` (R32). -/
inductive WcState where
  | normal
  | sendExtra
deriving DecidableEq, Repr

/-- `tf_state` (R36). -/
inductive TfState where
  | fill
  | sendLength
  | sendTimestamp
  | sendBody
deriving DecidableEq, Repr

/-- TimeAccumulator: `ta_count` (R22), `ta_overflow` (R23). -/
structure TimeAccumulator where
  count : Delta
  overflow : Bool
deriving DecidableEq, Repr

/-- EventLatch: `el_code` (R24), `el_new` (R25). -/
structure EventLatch where
  code : Byte
  new : Bool
deriving DecidableEq, Repr

/-- FramingEncoder: snapshot registers (R26), `fe_state` (R27), serial `fe_shift` and `fe_rem` (R28). -/
structure FramingEncoder where
  typ : RecType
  delta : Delta
  len : BitVec 2
  payload : Byte
  state : FeState
  shift : BitVec 24
  rem : BitVec 2
deriving DecidableEq, Repr

/-- ResyncPatternGenerator: `rpg_state`, `rpg_repeats` (R29). -/
structure ResyncGenerator where
  state : RpgState
  repeats : BitVec 8
deriving DecidableEq, Repr

/-- WidthConverter: `wc_carry`, `wc_remain` (R31), `wc_state`, `wc_out_word`, `wc_out_valid` (R32). -/
structure WidthConverter where
  carry : BitVec 24
  remain : BitVec 2
  state : WcState
  outWord : Word
  outValid : Bool
deriving DecidableEq, Repr

/-- BurstBuffer: `bb_queue`, oldest first (R33), `bb_refused` (R34). -/
structure BurstBuffer where
  queue : List Word
  refused : BitVec 32
deriving DecidableEq, Repr

/-- TransportFramer: `tf_acc`, `tf_level`, `tf_rd_idx` (R35), `tf_state`, `tf_timer`, `tf_clock`, the latches (R36). -/
structure TransportFramer where
  acc : List Word
  level : Nat
  rdIdx : Nat
  state : TfState
  timer : BitVec 32
  clock : BitVec 32
  lenLatch : Word
  tsLatch : Word
deriving DecidableEq, Repr

/-- The input ports of one cycle (R40 to R45), but for the configuration inputs. -/
structure Inputs where
  rst : Bool
  capValid : Bool
  capData : Byte
  capCtl : Bool
  evWrite : Bool
  evCode : Byte
  resyncStart : Bool
  hostReady : Bool
  serReady : Bool
deriving DecidableEq, Repr

/-- Every unlisted input is 0 and the two ready inputs are 1 (R113). -/
def Inputs.idle : Inputs where
  rst := false
  capValid := false
  capData := 0
  capCtl := false
  evWrite := false
  evCode := 0
  resyncStart := false
  hostReady := true
  serReady := true

/-- The state of the block with its surroundings. `cfg` is constant (R21). `inp` holds the ports of the current cycle and
`stim` those of the cycles to come (log entry 1). `issue` is the model's own: the operation or wire form the test bench
invokes in the next step (log entry 4). -/
structure State where
  cfg : Config
  ta : TimeAccumulator
  el : EventLatch
  fe : FramingEncoder
  rpg : ResyncGenerator
  muxSelQ : Bool
  wc : WidthConverter
  bb : BurstBuffer
  tf : TransportFramer
  inp : Inputs
  stim : List Inputs
  issue : Option Issue
deriving DecidableEq, Repr

/-- The state S(0) under a configuration (R13, R47). `tf_acc`, whose content the spec leaves unspecified (R47, U1), holds
zeros: DESIGN CHOICE, log entry 9. -/
def State.resetWith (c : Config) : State where
  cfg := c
  ta := { count := 0, overflow := false }
  el := { code := 0, new := false }
  fe := { typ := .overflow, delta := 0, len := 0, payload := 0, state := .idle, shift := 0, rem := 0 }
  rpg := { state := .idle, repeats := 0 }
  muxSelQ := false
  wc := { carry := 0, remain := 0, state := .normal, outWord := 0, outValid := false }
  bb := { queue := [], refused := 0 }
  tf := { acc := List.replicate c.tfCapacity 0, level := 0, rdIdx := 0, state := .fill, timer := 0, clock := 0,
          lenLatch := 0, tsLatch := 0 }
  inp := Inputs.idle
  stim := []
  issue := none

/-- The state right after reset under the default configuration (R47). -/
def State.reset : State := State.resetWith Config.default

/-- The storage keeps its form (R33, R35, R60): the queue fits its capacity, the frame accumulator has its size, the level is
within it. The block has no addressable memory. -/
def Memory.wf (s : State) : Bool :=
  decide (s.bb.queue.length ≤ s.cfg.bbDepth) && decide (s.tf.acc.length = s.cfg.tfCapacity) &&
    decide (s.tf.level ≤ s.cfg.tfCapacity)

/-- No operation of the block raises an exception and nothing stops it with a fault (R255): there is no constructor. -/
inductive Fault where
deriving DecidableEq, Repr

/-- Why a step has no meaning. -/
inductive Refusal where
  /-- Raised by `exec` for an instruction without a meaning; no arm is left that raises it. Safe. -/
  | notModelled (mnemonic : String)
  /-- Raised by `step` for a configuration outside its legal range, which the spec leaves undefined and says to refuse
  (R267, U6). Safe: the hardware goes on, unspecified. -/
  | illegalConfiguration
  /-- Raised by `step` when the issue slot's bytes encode no row of the table (R104, U7). Safe: the block itself never
  fetches; the bench's bytes stand for nothing. -/
  | undecodable (e : DecodeError)
deriving DecidableEq, Repr

end Sys2Proof.Machine
end

