-- ==== Sys2Proof/Machine/Flags.lean ====
section
/-! DEFINITION. The flags and conditions of R38, the length decoder of R122, the counters' limits, the flush trigger of R232
and the legal configurations of R267. -/

namespace Sys2Proof.Machine

/-- `TA_MAX` = 2^28 − 1, the saturation value (R8). -/
def taMax : Delta := 0xFFFFFFF

/-- `TL`, the EncodedLength: the least number of timestamp bytes (R122). -/
def encodedLength (c : Delta) : BitVec 2 :=
  if c.toNat < 16 then 0
  else if c.toNat < 4096 then 1
  else if c.toNat < 1048576 then 2
  else 3

/-- `rpg_busy`, not a register of its own (R29, R201). -/
def rpgBusy (s : State) : Bool := s.rpg.state == .pattern

/-- `bb_full` (R38). -/
def bbFull (s : State) : Bool := decide (s.cfg.bbDepth ≤ s.bb.queue.length)

/-- `bb_empty` (R38). -/
def bbEmpty (s : State) : Bool := s.bb.queue.isEmpty

/-- `wc_mid_record` (R180). -/
def wcMidRecord (s : State) : Bool := s.wc.state == .sendExtra

/-- `tf_trigger`: the depth trigger or the timeout trigger (R232). -/
def tfTrigger (c : Config) (tf : TransportFramer) : Bool :=
  decide (c.depth ≤ tf.level) || (decide (0 < tf.level) && decide (c.idleTimeout.toNat ≤ tf.timer.toNat))

/-- One more, held at the greatest value (R15, R220: `bb_refused` saturates). -/
def saturatingIncrement (n : BitVec 32) : BitVec 32 :=
  if n = 0xFFFFFFFF then n else n + 1

/-- The legal configurations (R9, R10, R267, R285). -/
def configLegal (c : Config) : Bool :=
  decide (1 ≤ c.depth) && decide (c.depth ≤ c.tfCapacity) && decide (1 ≤ c.idleTimeout.toNat) &&
    decide (2 ≤ c.resyncLen.toNat) && decide (c.resyncLen.toNat ≤ 5) && decide (1 ≤ c.bbDepth) && decide (1 ≤ c.tfCapacity)

/-- The stages after FramingEncoder are built: with the serial variant the block ends at FramingEncoder (R45; log entry 8). -/
def pipelineBuilt (s : State) : Bool := s.cfg.feVariant == .parallel

end Sys2Proof.Machine
end

