-- ==== Sys2Proof/Machine/Operands.lean ====
section
/-! DEFINITION. The combinational signals of one cycle, functions of the registers and ports of that cycle (R13, R61, R64,
R65): the arbiter, every stream port's valid, ready, data and fire, the three strobes, the output ports. In a cycle with `rst`
the external handshakes are forced low (R281). -/

namespace Sys2Proof.Machine

/-- The arbiter's outcome (R151). -/
inductive Selection where
  | overflow
  | event
  | capture
  | none
deriving DecidableEq, Repr

/-- The strict priority overflow, event, capture, looked at in `IDLE` only (R151). -/
def arbiter (s : State) : Selection :=
  if s.fe.state ≠ .idle then .none
  else if s.ta.overflow then .overflow
  else if s.el.new then .event
  else if s.inp.capValid then .capture
  else .none

/-- The record the arbiter creates in this cycle: forced constants for Overflow (R152), snapshots for Event (R153), Data and
Control (R154). -/
def selectedRecord (s : State) : Option Record :=
  match arbiter s with
  | .overflow => some ⟨.overflow, taMax, 3, 0⟩
  | .event => some ⟨.event, s.ta.count, encodedLength s.ta.count, s.el.code⟩
  | .capture =>
    some ⟨if s.inp.capCtl then .control else .data, s.ta.count, encodedLength s.ta.count, s.inp.capData⟩
  | .none => none

/-- `cap_ready` (R155), forced to 0 by `rst` (R281). -/
def capReady (s : State) : Bool :=
  !s.inp.rst && (s.fe.state == .idle) && !s.ta.overflow && !s.el.new

/-- `cap_fire` (R17). -/
def capFire (s : State) : Bool := s.inp.capValid && capReady s

/-- `ta_consume` (R171). -/
def taConsume (s : State) : Bool :=
  (s.fe.state == .idle) && !s.ta.overflow && (s.el.new || s.inp.capValid)

/-- `el_ack` (R171). -/
def elAck (s : State) : Bool := (s.fe.state == .idle) && !s.ta.overflow && s.el.new

/-- `ser_valid` (R161), forced to 0 by `rst` (R281). -/
def serValid (s : State) : Bool :=
  !s.inp.rst &&
  match s.fe.state with
  | .idle => false
  | .header => true
  | .timestamp => true
  | .payload => true
  | .emit => false

/-- `ser_data` (R161); 0 where it is not driven by a record (R161, U2). -/
def serData (s : State) : Byte :=
  match s.fe.state with
  | .idle => 0
  | .header => headerByte s.fe.typ s.fe.delta s.fe.len
  | .timestamp => s.fe.shift.setWidth 8
  | .payload => s.fe.payload
  | .emit => 0

/-- `ser_fire` (R17). -/
def serFire (s : State) : Bool := serValid s && s.inp.serReady

/-- The snapshot registers as a record (R26). -/
def feRecord (fe : FramingEncoder) : Record := ⟨fe.typ, fe.delta, fe.len, fe.payload⟩

/-- `rec_valid` (R167). -/
def recValid (s : State) : Bool := s.fe.state == .emit

/-- `rec_slot`: `pack_5(bytes)` in `EMIT` (R166), 0 in `IDLE` (R167, U2). -/
def recSlot (s : State) : Slot :=
  if recValid s then pack 40 (feRecord s.fe).bytes else 0

/-- `rec_lencode = byteCount − 2` in `EMIT` (R166), 0 in `IDLE` (R167, U2). -/
def recLencode (s : State) : BitVec 2 :=
  if recValid s then BitVec.ofNat 2 (byteCount s.fe.typ s.fe.len - 2) else 0

/-- `rpg_valid` (R201). -/
def rpgValid (s : State) : Bool := rpgBusy s

/-- `rpg_slot`, read live from the configuration (R201). -/
def rpgSlot (s : State) : Slot := s.cfg.resyncPattern

/-- `rpg_lencode = cfg_resync_len − 2` (R201). -/
def rpgLencode (s : State) : BitVec 2 := BitVec.ofNat 2 (s.cfg.resyncLen.toNat - 2)

/-- `mux_sel`: the generator has priority, but inside a record the last selection is held (R206, R207). -/
def muxSel (s : State) : Bool := if wcMidRecord s then s.muxSelQ else rpgValid s

/-- `wci_valid` (R206). -/
def wciValid (s : State) : Bool := if muxSel s then rpgValid s else recValid s

/-- `wci_slot` (R206). -/
def wciSlot (s : State) : Slot := if muxSel s then rpgSlot s else recSlot s

/-- `wci_lencode` (R206). -/
def wciLencode (s : State) : BitVec 2 := if muxSel s then rpgLencode s else recLencode s

/-- `L = wci_lencode + 2`, the length of the presented record (R181). -/
def recordLength (lencode : BitVec 2) : Nat := lencode.toNat + 2

/-- `A`, the bytes of the presented record; slot bytes above its length are ignored (R181). -/
def wciBytes (s : State) : List Byte := unpack (wciSlot s) (recordLength (wciLencode s))

/-- `wci_ready` for a record of a given length code (R183). -/
def wcReady (lencode : BitVec 2) (wc : WidthConverter) : Bool :=
  match wc.state with
  | .normal =>
    if wc.remain.toNat + recordLength lencode < 4 then true
    else if wc.remain.toNat + recordLength lencode < 8 then !wc.outValid
    else false
  | .sendExtra => !wc.outValid

/-- `wci_ready` (R183). -/
def wciReady (s : State) : Bool := wcReady (wciLencode s) s.wc

/-- `wci_fire` (R17). -/
def wciFire (s : State) : Bool := wciValid s && wciReady s

/-- `rpg_ready` (R206). -/
def rpgReady (s : State) : Bool := muxSel s && wciReady s

/-- `rpg_fire` (R17). -/
def rpgFire (s : State) : Bool := rpgValid s && rpgReady s

/-- `rec_ready` (R206). -/
def recReady (s : State) : Bool := !muxSel s && wciReady s

/-- `rec_fire` (R17). -/
def recFire (s : State) : Bool := recValid s && recReady s

/-- `ta_clear`: the last transfer of an Overflow record is accepted in this cycle (R160, R166, R171). -/
def taClear (s : State) : Bool :=
  (s.fe.typ == .overflow) &&
  match s.fe.state with
  | .idle => false
  | .header => (s.fe.len == 0) && s.inp.serReady
  | .timestamp => (s.fe.rem == 1) && s.inp.serReady
  | .payload => false
  | .emit => recReady s

/-- `wco_valid` (R180). -/
def wcoValid (s : State) : Bool := s.wc.outValid

/-- `wco_word` (R180). -/
def wcoWord (s : State) : Word := s.wc.outWord

/-- `wco_ready`: not full at the start of the cycle (R216). -/
def wcoReady (s : State) : Bool := !bbFull s

/-- `wco_fire` (R17, R182). -/
def wcoFire (s : State) : Bool := wcoValid s && wcoReady s

/-- `bbr_valid` (R216). -/
def bbrValid (s : State) : Bool := !bbEmpty s

/-- `bbr_word`, the oldest word; 0 when the queue is empty (R216, U2; log entry 10). -/
def bbrWord (s : State) : Word := s.bb.queue.headD 0

/-- `bbr_ready`: filling, and no flush due (R233). -/
def bbrReady (s : State) : Bool := (s.tf.state == .fill) && !tfTrigger s.cfg s.tf

/-- `bbr_fire` (R17, R218). -/
def bbrFire (s : State) : Bool := bbrValid s && bbrReady s

/-- `tf_rd_idx = tf_level − 1`: the body word being sent is the last (R243). -/
def tfLastWord (tf : TransportFramer) : Bool := tf.rdIdx + 1 == tf.level

/-- `host_valid` (R231), forced to 0 by `rst` (R281). -/
def hostValid (s : State) : Bool := !s.inp.rst && s.tf.state != .fill

/-- `acc_read(tf_rd_idx)` (R17, R243). -/
def accRead (tf : TransportFramer) : Word := tf.acc.getD tf.rdIdx 0

/-- `host_data` (R231). -/
def hostData (s : State) : Word :=
  match s.tf.state with
  | .fill => 0
  | .sendLength => s.tf.lenLatch
  | .sendTimestamp => s.tf.tsLatch
  | .sendBody => accRead s.tf

/-- `host_last` (R231), forced to 0 by `rst` (R281). -/
def hostLast (s : State) : Bool := !s.inp.rst && (s.tf.state == .sendBody) && tfLastWord s.tf

/-- `host_fire` (R17). -/
def hostFire (s : State) : Bool := hostValid s && s.inp.hostReady

/-- The output ports of the block (R41, R43, R44, R45). -/
structure Outputs where
  capReady : Bool
  serValid : Bool
  serData : Byte
  hostValid : Bool
  hostData : Word
  hostLast : Bool
  rpgBusy : Bool
  bbRefused : BitVec 32
  taOverflow : Bool
deriving DecidableEq, Repr

/-- What the block drives in this cycle. -/
def outputs (s : State) : Outputs where
  capReady := capReady s
  serValid := serValid s
  serData := serData s
  hostValid := hostValid s
  hostData := hostData s
  hostLast := hostLast s
  rpgBusy := rpgBusy s
  bbRefused := s.bb.refused
  taOverflow := s.ta.overflow

end Sys2Proof.Machine
end

