-- ==== Sys2Proof/Machine/Ops.lean ====
section
/-! DEFINITION. The components' next-state functions, one per component and total on every combination of strobes (R129, R144,
R156 to R168, R194, R205, R219, R220, R245, R255), the storage operations of R17, the reset of R280, and the edge on which an
operation takes effect. The block has no exceptions: nothing is entered, saved or returned from (R255, R261, R262). -/

namespace Sys2Proof.Machine

/-- TimeAccumulator's next state (R129): consume over clear over hold over saturate over increment. -/
def taNext (c : Config) (consume clear : Bool) (ta : TimeAccumulator) : TimeAccumulator :=
  if consume then { count := 0, overflow := false }
  else if clear then { count := if c.clearResetsCount then 0 else ta.count, overflow := false }
  else if ta.overflow then ta
  else if ta.count = taMax then { ta with overflow := true }
  else { ta with count := ta.count + 1 }

/-- EventLatch's next state (R144): a write wins over an acknowledge. -/
def elNext (write : Bool) (code : Byte) (ack : Bool) (el : EventLatch) : EventLatch :=
  if write then { code := code, new := true }
  else if ack then { el with new := false }
  else el

/-- Loading the snapshot registers with a selected record; the serial variant also loads its shift register and its
remaining count (R152 to R154, R156, R165). -/
def feLoad (c : Config) (r : Record) (fe : FramingEncoder) : FramingEncoder :=
  match c.feVariant with
  | .serial =>
    { typ := r.typ, delta := r.delta, len := r.len, payload := r.payload, state := .header,
      shift := r.delta.extractLsb' 4 24, rem := r.len }
  | .parallel => { fe with typ := r.typ, delta := r.delta, len := r.len, payload := r.payload, state := .emit }

/-- One accepted byte of the serial variant (R157, R158, R159). -/
def feSerialAdvance (fe : FramingEncoder) : FramingEncoder :=
  match fe.state with
  | .idle => fe
  | .header =>
    if fe.len ≠ 0 then { fe with state := .timestamp }
    else if fe.typ ≠ .overflow then { fe with state := .payload }
    else { fe with state := .idle }
  | .timestamp =>
    { fe with
      shift := fe.shift >>> 8
      rem := fe.rem - 1
      state := if fe.rem = 1 then (if fe.typ ≠ .overflow then .payload else .idle) else .timestamp }
  | .payload => { fe with state := .idle }
  | .emit => fe

/-- FramingEncoder's next state in both variants (R151, R156 to R159, R165, R166): a selection in `IDLE`, an accepted byte or
record in a sending state, else nothing. -/
def feNext (c : Config) (selected : Option Record) (serReady recReady : Bool) (fe : FramingEncoder) : FramingEncoder :=
  match fe.state with
  | .idle =>
    match selected with
    | some r => feLoad c r fe
    | none => fe
  | .header => if serReady then feSerialAdvance fe else fe
  | .timestamp => if serReady then feSerialAdvance fe else fe
  | .payload => if serReady then feSerialAdvance fe else fe
  | .emit => if recReady then { fe with state := .idle } else fe

/-- ResyncPatternGenerator's next state (R205). -/
def rpgNext (c : Config) (start fire : Bool) (rpg : ResyncGenerator) : ResyncGenerator :=
  match rpg.state with
  | .idle =>
    if start && c.resyncRepeat != 0 then { state := .pattern, repeats := c.resyncRepeat } else rpg
  | .pattern =>
    if fire then
      if rpg.repeats = 1 then { state := .idle, repeats := 0 } else { rpg with repeats := rpg.repeats - 1 }
    else rpg

/-- WidthConverter's input side while a record of length code `lencode` is presented (R184, R185, R187, R188, R194). -/
def wcTake (slot : Slot) (lencode : BitVec 2) (wc : WidthConverter) : WidthConverter :=
  let r := wc.remain.toNat
  let a := unpack slot (recordLength lencode)
  let onHand := unpack wc.carry r ++ a
  let total := r + recordLength lencode
  match wc.state with
  | .normal =>
    if total < 4 then { wc with carry := pack 24 onHand, remain := BitVec.ofNat 2 total }
    else if wc.outValid then wc
    else if total < 8 then
      { wc with
        outWord := pack 32 (onHand.take 4)
        outValid := true
        carry := pack 24 (onHand.drop 4)
        remain := BitVec.ofNat 2 (total - 4) }
    else
      { wc with
        outWord := pack 32 (onHand.take 4)
        outValid := true
        carry := 0
        remain := 0
        state := .sendExtra }
  | .sendExtra =>
    if wc.outValid then wc
    else { wc with outWord := pack 32 (a.drop 1), outValid := true, state := .normal }

/-- WidthConverter's output side: the holding register drains (R182). -/
def wcDrain (fire : Bool) (wc : WidthConverter) : WidthConverter :=
  if fire then { wc with outValid := false } else wc

/-- WidthConverter's next state (R194): a load needs an empty holding register and a drain a full one, so they never meet. -/
def wcNext (valid : Bool) (slot : Slot) (lencode : BitVec 2) (fire : Bool) (wc : WidthConverter) : WidthConverter :=
  wcDrain fire (if valid then wcTake slot lencode wc else wc)

/-- `bb_push` (R17, R217). -/
def bbPush (w : Word) (bb : BurstBuffer) : BurstBuffer := { bb with queue := bb.queue ++ [w] }

/-- The destructive read of the head (R17, R218). -/
def bbPop (bb : BurstBuffer) : BurstBuffer := { bb with queue := bb.queue.tail }

/-- A refused cycle at the write port (R220). -/
def bbRefuse (bb : BurstBuffer) : BurstBuffer := { bb with refused := saturatingIncrement bb.refused }

/-- BurstBuffer's next state (R219, R220): pop, then push or count the refused cycle; `ready` is from the length at the start
of the cycle (R216). -/
def bbNext (pop valid ready : Bool) (w : Word) (bb : BurstBuffer) : BurstBuffer :=
  let popped := if pop then bbPop bb else bb
  if valid then (if ready then bbPush w popped else bbRefuse popped) else popped

/-- `acc_write(tf_level, w)` with the level counted up (R17, R234). -/
def tfAccept (w : Word) (tf : TransportFramer) : TransportFramer :=
  { tf with acc := tf.acc.set tf.level w, level := tf.level + 1 }

/-- The idle timer of a cycle in `FILL` without a flush (R235, R238). -/
def tfTimer (c : Config) (fire : Bool) (tf : TransportFramer) : TransportFramer :=
  if tf.level = 0 then { tf with timer := 0 }
  else if c.timerRestartOnWord && fire then { tf with timer := 0 }
  else { tf with timer := tf.timer + 1 }

/-- `length = 8 + 4n` (R236, R240). -/
def frameLengthOf (n : Nat) : Word := BitVec.ofNat 32 (8 + 4 * n)

/-- The flush instant (R236). -/
def tfFlush (tf : TransportFramer) : TransportFramer :=
  { tf with lenLatch := frameLengthOf tf.level, tsLatch := tf.clock, rdIdx := 0, state := .sendLength }

/-- One accepted host word (R241, R242, R243, R244). -/
def tfSent (tf : TransportFramer) : TransportFramer :=
  match tf.state with
  | .fill => tf
  | .sendLength => { tf with state := .sendTimestamp }
  | .sendTimestamp => { tf with state := .sendBody }
  | .sendBody =>
    if tfLastWord tf then { tf with state := .fill, level := 0, timer := 0, rdIdx := 0 }
    else { tf with rdIdx := tf.rdIdx + 1 }

/-- The free-running counter wraps (R237). -/
def tfTick (tf : TransportFramer) : TransportFramer := { tf with clock := tf.clock + 1 }

/-- TransportFramer's next state but for the free-running counter (R245). -/
def tfPhase (c : Config) (wordFire : Bool) (w : Word) (hostFire : Bool) (tf : TransportFramer) : TransportFramer :=
  match tf.state with
  | .fill =>
    if tfTrigger c tf then tfFlush tf
    else if wordFire then tfAccept w (tfTimer c true tf)
    else tfTimer c false tf
  | .sendLength => if hostFire then tfSent tf else tf
  | .sendTimestamp => if hostFire then tfSent tf else tf
  | .sendBody => if hostFire then tfSent tf else tf

/-- TransportFramer's next state (R237, R245). -/
def tfNext (c : Config) (wordFire : Bool) (w : Word) (hostFire : Bool) (tf : TransportFramer) : TransportFramer :=
  tfTick (tfPhase c wordFire w hostFire tf)

/-- Every register, the queue and the level take their reset values (R47, R280); ports and configuration are no registers. -/
def resetRegisters (s : State) : State :=
  { State.resetWith s.cfg with inp := s.inp, stim := s.stim, issue := s.issue }

/-- The clock edge on which an operation takes effect (R115): with `rst` no assignment of a component applies and reset wins
(R15, R260, R280). -/
def onEdge (s t : State) : Host.Outcome State Fault Refusal :=
  .next (if s.inp.rst then resetRegisters s else t)

/-- A selection by the arbiter: the record is loaded, TimeAccumulator consumed and EventLatch acknowledged as the strobes say
(R152, R153, R154, R171). -/
def select (s : State) : State :=
  match selectedRecord s with
  | none => s
  | some r =>
    { s with
      fe := feLoad s.cfg r s.fe
      ta := if taConsume s then taNext s.cfg true false s.ta else s.ta
      el := if elAck s then elNext s.inp.evWrite s.inp.evCode true s.el else s.el }

/-- The selection, if the arbiter's outcome is a given one; else nothing is selected (R151). -/
def selectIf (outcome : Bool) (s : State) : State := if outcome then select s else s

/-- The selection of a given record, if it is the one the arbiter creates now; else nothing is selected (R151; log
entry 6). -/
def selectRecord (r : Record) (s : State) : State := if selectedRecord s = some r then select s else s

/-- An operation on a stage after FramingEncoder, which the serial variant does not have (R45; log entry 8). -/
def onPipeline (s t : State) : State := if pipelineBuilt s then t else s

/-- One cycle of the generator at the multiplexer: if it is selected, WidthConverter sees its literal, and an accepted
transfer counts one repetition down (R203, R206; log entry 11). -/
def presentLiteral (s : State) : State :=
  if muxSel s && rpgValid s then
    { s with
      rpg := rpgNext s.cfg false (rpgFire s) s.rpg
      muxSelQ := muxSel s
      wc := wcTake (rpgSlot s) (rpgLencode s) s.wc }
  else s

/-- One cycle of BurstBuffer's write port: an accepted word leaves the holding register and joins the queue, a refused one
is counted (R182, R217, R220; log entry 11). -/
def writePort (s : State) : State :=
  { s with bb := bbNext false (wcoValid s) (wcoReady s) (wcoWord s) s.bb, wc := wcDrain (wcoFire s) s.wc }

/-- The idle timer when a word is accepted by an operation of its own: zero with restart and at the start of a batch (R235,
R238), not counted up (log entry 11). -/
def timerOnWord (c : Config) (tf : TransportFramer) : BitVec 32 :=
  if tf.level = 0 || c.timerRestartOnWord then 0 else tf.timer

/-- One cycle of BurstBuffer's read port: the head moves into the frame accumulator (R218, R234; log
entry 11). -/
def readPort (s : State) : State :=
  if bbrFire s then
    { s with
      bb := bbPop s.bb
      tf := { tfAccept (bbrWord s) s.tf with timer := timerOnWord s.cfg s.tf } }
  else s

/-- The flush, if it is due (R236); else nothing (log entry 15). -/
def flushIfDue (s : State) : State :=
  if s.tf.state = .fill ∧ tfTrigger s.cfg s.tf = true then { s with tf := tfFlush s.tf } else s

/-- The transfer of a given word on the host port in a given sending state: if the block presents it and the host is ready
(R231, R241 to R244; log entry 15); else nothing is sent. -/
def hostTransfer (state : TfState) (w : Word) (s : State) : State :=
  if s.tf.state = state ∧ hostFire s = true ∧ hostData s = w then { s with tf := tfSent s.tf } else s

end Sys2Proof.Machine
end

