-- ==== Sys2Proof/Machine/BurstBufferOps.lean ====
section
/-! DEFINITION. The operations of BurstBuffer (spec/45_burst_buffer.md), with the other side of each transfer (log entry 11). -/

namespace Sys2Proof.Machine

/-- PUSH: the word in WidthConverter's holding register joins the queue; into a full queue it is refused and the cycle counted
(R182, R217, R220). -/
def execPush (s : State) : Host.Outcome State Fault Refusal :=
  onEdge s (onPipeline s (writePort s))

/-- POP: the oldest word leaves the queue and is accepted by TransportFramer; nothing moves when the queue is empty or
TransportFramer is not filling (R218, R234, R235). -/
def execPop (s : State) : Host.Outcome State Fault Refusal :=
  onEdge s (onPipeline s (readPort s))

end Sys2Proof.Machine
end

