-- ==== Sys2Proof/Machine/EventLatchOps.lean ====
section
/-! DEFINITION. The operations of EventLatch (spec/41_event_latch.md): the next-state function of R144. -/

namespace Sys2Proof.Machine

/-- WRITE, `write(code)` with the code on `ev_code`: the event is pending, an older one is overwritten (R141, R142). -/
def execWrite (s : State) : Host.Outcome State Fault Refusal :=
  onEdge s { s with el := elNext true s.inp.evCode false s.el }

/-- ACK, `ack()`: `el_new` is cleared unless `ev_write` is 1 in the same cycle, when the write applies alone (R143). -/
def execAck (s : State) : Host.Outcome State Fault Refusal :=
  onEdge s { s with el := elNext s.inp.evWrite s.inp.evCode true s.el }

end Sys2Proof.Machine
end

