-- ==== Sys2Proof/Machine/FramingEncoderOps.lean ====
section
/-! DEFINITION. The selections of FramingEncoder's arbiter (spec/42_framing_encoder.md R151 to R154): each has its
effect when it is the arbiter's outcome and none otherwise. -/

namespace Sys2Proof.Machine

/-- SELECT_OVERFLOW (R152): forced constants are loaded, nothing is consumed or acknowledged. -/
def execSelectOverflow (s : State) : Host.Outcome State Fault Refusal :=
  onEdge s (selectIf (arbiter s == .overflow) s)

/-- SELECT_EVENT (R153): the record is loaded, TimeAccumulator consumed, EventLatch acknowledged. -/
def execSelectEvent (s : State) : Host.Outcome State Fault Refusal :=
  onEdge s (selectIf (arbiter s == .event) s)

/-- SELECT_DATA (R154): the capture byte with `cap_ctl` 0 is taken, TimeAccumulator consumed. -/
def execSelectData (s : State) : Host.Outcome State Fault Refusal :=
  onEdge s (selectIf (arbiter s == .capture && !s.inp.capCtl) s)

/-- SELECT_CONTROL (R154): the capture byte with `cap_ctl` 1 is taken, TimeAccumulator consumed. -/
def execSelectControl (s : State) : Host.Outcome State Fault Refusal :=
  onEdge s (selectIf (arbiter s == .capture && s.inp.capCtl) s)

end Sys2Proof.Machine
end

