-- ==== Sys2Proof/Machine/Records.lean ====
section
/-! DEFINITION. The record forms of the table (R97, R98, R99): each is the selection of that record by the arbiter
(R114: a record row's rule is its selection rule), if it is the record the arbiter creates in
this state; otherwise nothing is selected (log entry 6). -/

namespace Sys2Proof.Machine

/-- OVF: the selection of the Overflow record `3F FF FF FF` (R98, R152). Its values are forced constants, so the form with
other timestamp bytes is never the record selected (R104). -/
def execOvf (ts : BitVec 24) (s : State) : Host.Outcome State Fault Refusal :=
  onEdge s (selectRecord ⟨.overflow, BitVec.ofNat 28 (ts.toNat * 16 + 15), 3, 0⟩ s)

/-- EVT_T0: the selection of an Event record with `timeLen` 0 (R153, R99): payload `el_code`,
`timeDelta` the elapsed count. -/
def execEvtT0 (delta : BitVec 4) (code : Byte) (s : State) : Host.Outcome State Fault Refusal :=
  onEdge s (selectRecord ⟨.event, delta.setWidth 28, 0, code⟩ s)

/-- EVT_T1: the selection of an Event record with `timeLen` 1 (R153, R99): payload `el_code`,
`timeDelta` the elapsed count. -/
def execEvtT1 (delta : BitVec 12) (code : Byte) (s : State) : Host.Outcome State Fault Refusal :=
  onEdge s (selectRecord ⟨.event, delta.setWidth 28, 1, code⟩ s)

/-- EVT_T2: the selection of an Event record with `timeLen` 2 (R153, R99): payload `el_code`,
`timeDelta` the elapsed count. -/
def execEvtT2 (delta : BitVec 20) (code : Byte) (s : State) : Host.Outcome State Fault Refusal :=
  onEdge s (selectRecord ⟨.event, delta.setWidth 28, 2, code⟩ s)

/-- EVT_T3: the selection of an Event record with `timeLen` 3 (R153, R99): payload `el_code`,
`timeDelta` the elapsed count. -/
def execEvtT3 (delta : BitVec 28) (code : Byte) (s : State) : Host.Outcome State Fault Refusal :=
  onEdge s (selectRecord ⟨.event, delta.setWidth 28, 3, code⟩ s)

/-- DAT_T0: the selection of a Data record with `timeLen` 0 (R154, R99): payload `cap_data`
with `cap_ctl` 0, `timeDelta` the elapsed count. -/
def execDatT0 (delta : BitVec 4) (byte : Byte) (s : State) : Host.Outcome State Fault Refusal :=
  onEdge s (selectRecord ⟨.data, delta.setWidth 28, 0, byte⟩ s)

/-- DAT_T1: the selection of a Data record with `timeLen` 1 (R154, R99): payload `cap_data`
with `cap_ctl` 0, `timeDelta` the elapsed count. -/
def execDatT1 (delta : BitVec 12) (byte : Byte) (s : State) : Host.Outcome State Fault Refusal :=
  onEdge s (selectRecord ⟨.data, delta.setWidth 28, 1, byte⟩ s)

/-- DAT_T2: the selection of a Data record with `timeLen` 2 (R154, R99): payload `cap_data`
with `cap_ctl` 0, `timeDelta` the elapsed count. -/
def execDatT2 (delta : BitVec 20) (byte : Byte) (s : State) : Host.Outcome State Fault Refusal :=
  onEdge s (selectRecord ⟨.data, delta.setWidth 28, 2, byte⟩ s)

/-- DAT_T3: the selection of a Data record with `timeLen` 3 (R154, R99): payload `cap_data`
with `cap_ctl` 0, `timeDelta` the elapsed count. -/
def execDatT3 (delta : BitVec 28) (byte : Byte) (s : State) : Host.Outcome State Fault Refusal :=
  onEdge s (selectRecord ⟨.data, delta.setWidth 28, 3, byte⟩ s)

/-- CTL_T0: the selection of a Control record with `timeLen` 0 (R154, R99): payload `cap_data`
with `cap_ctl` 1, `timeDelta` the elapsed count. -/
def execCtlT0 (delta : BitVec 4) (byte : Byte) (s : State) : Host.Outcome State Fault Refusal :=
  onEdge s (selectRecord ⟨.control, delta.setWidth 28, 0, byte⟩ s)

/-- CTL_T1: the selection of a Control record with `timeLen` 1 (R154, R99): payload `cap_data`
with `cap_ctl` 1, `timeDelta` the elapsed count. -/
def execCtlT1 (delta : BitVec 12) (byte : Byte) (s : State) : Host.Outcome State Fault Refusal :=
  onEdge s (selectRecord ⟨.control, delta.setWidth 28, 1, byte⟩ s)

/-- CTL_T2: the selection of a Control record with `timeLen` 2 (R154, R99): payload `cap_data`
with `cap_ctl` 1, `timeDelta` the elapsed count. -/
def execCtlT2 (delta : BitVec 20) (byte : Byte) (s : State) : Host.Outcome State Fault Refusal :=
  onEdge s (selectRecord ⟨.control, delta.setWidth 28, 2, byte⟩ s)

/-- CTL_T3: the selection of a Control record with `timeLen` 3 (R154, R99): payload `cap_data`
with `cap_ctl` 1, `timeDelta` the elapsed count. -/
def execCtlT3 (delta : BitVec 28) (byte : Byte) (s : State) : Host.Outcome State Fault Refusal :=
  onEdge s (selectRecord ⟨.control, delta.setWidth 28, 3, byte⟩ s)

end Sys2Proof.Machine
end

