-- ==== Sys2Proof/Machine/ResetOps.lean ====
section
/-! DEFINITION. The global reset (spec/70_reset_and_hazards.md R280). -/

namespace Sys2Proof.Machine

/-- RESET: every register, the queue and the level take their reset values, whatever else is asserted (R47, R280). -/
def execReset (s : State) : Host.Outcome State Fault Refusal :=
  .next (resetRegisters s)

end Sys2Proof.Machine
end

