-- ==== Sys2Proof/Machine/ResyncOps.lean ====
section
/-! DEFINITION. ResyncPatternGenerator (spec/44_resync_pattern_generator.md): the trigger and one repetition of the literal. -/

namespace Sys2Proof.Machine

/-- RSY, one repetition: while the generator is selected WidthConverter sees its literal, and an accepted transfer counts one
repetition down or ends the burst (R203, R206, R207; log entry 11). -/
def execRsy (s : State) : Host.Outcome State Fault Refusal :=
  onEdge s (onPipeline s (presentLiteral s))

/-- START: from `IDLE`, loads the repeat count and begins the burst; ignored while busy, and with repeat count 0 (R202, R204). -/
def execStart (s : State) : Host.Outcome State Fault Refusal :=
  onEdge s (onPipeline s { s with rpg := rpgNext s.cfg true false s.rpg })

end Sys2Proof.Machine
end

