-- ==== Sys2Proof/Machine/TimeAccumulatorOps.lean ====
section
/-! DEFINITION. The operations of TimeAccumulator (spec/40_time_accumulator.md): the next-state function of R129
with one strobe. -/

namespace Sys2Proof.Machine

/-- TICK, `tick()` with neither strobe: increment (R123), saturate and raise `ta_overflow` at `TA_MAX` (R124), hold while
overflowed (R128). -/
def execTick (s : State) : Host.Outcome State Fault Refusal :=
  onEdge s { s with ta := taNext s.cfg false false s.ta }

/-- CONSUME, `consume()`: the counter and the flag are cleared, also against saturation (R125, R126). -/
def execConsume (s : State) : Host.Outcome State Fault Refusal :=
  onEdge s { s with ta := taNext s.cfg true false s.ta }

/-- CLEAR_OVERFLOW, `clearOverflow()`: the flag is cleared, and the counter too unless `TA_CLEAR_RESETS_COUNT` is false (R127). -/
def execClearOverflow (s : State) : Host.Outcome State Fault Refusal :=
  onEdge s { s with ta := taNext s.cfg false true s.ta }

end Sys2Proof.Machine
end

