-- ==== Sys2Proof/Machine/TransportFramerOps.lean ====
section
/-! DEFINITION. The flush and the frame words of TransportFramer (spec/46_transport_framer.md): a frame word is sent
in its sending state, if it is the word the block presents and the host is ready (log entry 15). -/

namespace Sys2Proof.Machine

/-- FRAME_LENGTH: the transfer of a frame's first word, `tf_len_latch` (R241). -/
def execFrameLength (length : Word) (s : State) : Host.Outcome State Fault Refusal :=
  onEdge s (onPipeline s (hostTransfer .sendLength length s))

/-- FRAME_TIMESTAMP: the transfer of a frame's second word, `tf_ts_latch` (R242). -/
def execFrameTimestamp (timestamp : Word) (s : State) : Host.Outcome State Fault Refusal :=
  onEdge s (onPipeline s (hostTransfer .sendTimestamp timestamp s))

/-- FRAME_PAYLOAD: the transfer of a body word, `tf_acc[tf_rd_idx]`; the last one ends the frame (R243, R244). -/
def execFramePayload (word : Word) (s : State) : Host.Outcome State Fault Refusal :=
  onEdge s (onPipeline s (hostTransfer .sendBody word s))

/-- FLUSH: in `FILL` with the trigger true, the header words are latched and sending begins (R236, R240). -/
def execFlush (s : State) : Host.Outcome State Fault Refusal :=
  onEdge s (onPipeline s (flushIfDue s))

end Sys2Proof.Machine
end

