-- ==== Sys2Proof/Machine/Dispatch.lean ====
section
/-! DEFINITION. One arm per row of the opcode table. -/

namespace Sys2Proof.Machine

def exec (i : Instr) (s : State) : Host.Outcome State Fault Refusal :=
  match i with
  | .ovf ts => Sys2Proof.Machine.execOvf ts s
  | .evtT0 delta code => Sys2Proof.Machine.execEvtT0 delta code s
  | .evtT1 delta code => Sys2Proof.Machine.execEvtT1 delta code s
  | .evtT2 delta code => Sys2Proof.Machine.execEvtT2 delta code s
  | .evtT3 delta code => Sys2Proof.Machine.execEvtT3 delta code s
  | .datT0 delta byte => Sys2Proof.Machine.execDatT0 delta byte s
  | .datT1 delta byte => Sys2Proof.Machine.execDatT1 delta byte s
  | .datT2 delta byte => Sys2Proof.Machine.execDatT2 delta byte s
  | .datT3 delta byte => Sys2Proof.Machine.execDatT3 delta byte s
  | .ctlT0 delta byte => Sys2Proof.Machine.execCtlT0 delta byte s
  | .ctlT1 delta byte => Sys2Proof.Machine.execCtlT1 delta byte s
  | .ctlT2 delta byte => Sys2Proof.Machine.execCtlT2 delta byte s
  | .ctlT3 delta byte => Sys2Proof.Machine.execCtlT3 delta byte s
  | .rsy => Sys2Proof.Machine.execRsy s
  | .frameLength length => Sys2Proof.Machine.execFrameLength length s
  | .frameTimestamp timestamp => Sys2Proof.Machine.execFrameTimestamp timestamp s
  | .framePayload word => Sys2Proof.Machine.execFramePayload word s
  | .tick => Sys2Proof.Machine.execTick s
  | .consume => Sys2Proof.Machine.execConsume s
  | .clearOverflow => Sys2Proof.Machine.execClearOverflow s
  | .write => Sys2Proof.Machine.execWrite s
  | .ack => Sys2Proof.Machine.execAck s
  | .selectOverflow => Sys2Proof.Machine.execSelectOverflow s
  | .selectEvent => Sys2Proof.Machine.execSelectEvent s
  | .selectData => Sys2Proof.Machine.execSelectData s
  | .selectControl => Sys2Proof.Machine.execSelectControl s
  | .start => Sys2Proof.Machine.execStart s
  | .push => Sys2Proof.Machine.execPush s
  | .pop => Sys2Proof.Machine.execPop s
  | .flush => Sys2Proof.Machine.execFlush s
  | .reset => Sys2Proof.Machine.execReset s

end Sys2Proof.Machine
end

