-- ==== Sys2Proof/Machine/Clock.lean ====
section
/-! DEFINITION. One clock cycle of the whole block: every component steps once, simultaneously, on the signals of this cycle
(R11, R13, R65); with `rst` every register takes its reset value instead (R280). Then the environment's next ports are seen. -/

namespace Sys2Proof.Machine

/-- The capture side, built in both variants: TimeAccumulator, EventLatch, FramingEncoder (R12, R129, R144, R151 to R166). -/
def captureCycle (s t : State) : State :=
  { t with
    ta := taNext s.cfg (taConsume s) (taClear s) s.ta
    el := elNext s.inp.evWrite s.inp.evCode (elAck s) s.el
    fe := feNext s.cfg (selectedRecord s) s.inp.serReady (recReady s) s.fe }

/-- The transport side, built with the parallel variant: generator, multiplexer, WidthConverter, BurstBuffer,
TransportFramer (R45, R194, R205, R206, R219, R245; log entry 8). -/
def transportCycle (s t : State) : State :=
  { t with
    rpg := rpgNext s.cfg s.inp.resyncStart (rpgFire s) s.rpg
    muxSelQ := muxSel s
    wc := wcNext (wciValid s) (wciSlot s) (wciLencode s) (wcoFire s) s.wc
    bb := bbNext (bbrFire s) (wcoValid s) (wcoReady s) (wcoWord s) s.bb
    tf := tfNext s.cfg (bbrFire s) (bbrWord s) (hostFire s) s.tf }

/-- The registers after one cycle with `rst` 0, every one from the state of the cycle (R13, R15). -/
def cycleRegisters (s : State) : State :=
  if pipelineBuilt s then transportCycle s (captureCycle s s) else captureCycle s s

/-- The environment's ports of the next cycle: the next of its list, or idle ports when it is empty (R113; log entry 1). -/
def advanceInputs (s : State) : State :=
  match s.stim with
  | [] => { s with inp := Inputs.idle }
  | i :: rest => { s with inp := i, stim := rest }

/-- One clock cycle: S(t+1) from S(t) and the ports (R13); reset overrides every other rule (R280). -/
def clock (s : State) : State :=
  advanceInputs (if s.inp.rst then resetRegisters s else cycleRegisters s)

end Sys2Proof.Machine
end

