-- ==== Sys2Proof/Machine/Fetch.lean ====
section
/-! DEFINITION. The issue slot (log entry 4): where the bench places one encoding, how it is read and emptied. -/

namespace Sys2Proof.Machine

/-- What stands in the issue slot, decoded; none when it is empty. -/
def fetch (s : State) : Option Decoded := s.issue.map decode

/-- The slot is emptied when its encoding is taken. -/
def clearIssue (s : State) : State := { s with issue := none }

/-- An encoding is placed in the slot. -/
def placeIssue (s : State) (p : Issue) : State := { s with issue := some p }

end Sys2Proof.Machine
end

