-- ==== Sys2Proof/Machine/Step.lean ====
section
/-! DEFINITION. One step (R13): with nothing issued a clock cycle of the block; with an encoding in the issue slot that one
instruction (log entry 4). A configuration outside its legal range is refused (R267, U6; log entry 3). -/

namespace Sys2Proof.Machine

/-- One step of the machine. -/
def step (s : State) : Host.Outcome State Fault Refusal :=
  if configLegal s.cfg then
    match fetch s with
    | none => .next (clock s)
    | some (.instr i _) => exec i (clearIssue s)
    | some (.rejected e) => .refused (.undecodable e)
  else .refused .illegalConfiguration

/-- The state with a table word placed in the issue slot; nothing else changes (log entries 4 and 5). -/
def State.withFetchWord (s : State) (nbits w : Nat) : State := placeIssue s (tableIssue nbits w)

end Sys2Proof.Machine
end

