-- ==== Sys2Proof/Safety.lean ====
section
/-! DEFINITION. What the claims about the machine speak of: the invariants of R48 with what they need, runs of clock cycles,
and the bytes on their way through the block (R77, R81, R192). -/

namespace Sys2Proof.Machine

/-- R48 (a): the overflow flag stands only at the saturation value. -/
abbrev taInv (s : State) : Prop := s.ta.overflow = true → s.ta.count = taMax

/-- The states of `fe_state` each variant has (R27). -/
abbrev variantInv (s : State) : Prop :=
  (s.cfg.feVariant = .parallel → s.fe.state = .idle ∨ s.fe.state = .emit) ∧
  (s.cfg.feVariant = .serial → s.fe.state ≠ .emit)

/-- R48 (f) for Overflow, R99 for the other types, while a record is in flight. -/
abbrev recordInv (s : State) : Prop :=
  s.fe.state ≠ .idle →
    (s.fe.typ = .overflow → s.fe.delta = taMax ∧ s.fe.len = 3) ∧
    (s.fe.typ ≠ .overflow → s.fe.len = encodedLength s.fe.delta)

/-- The serial variant's shift register holds the timestamp bytes still to send (R28, R156, R158). -/
abbrev shiftInv (s : State) : Prop :=
  (s.fe.state = .header → s.fe.rem = s.fe.len ∧ s.fe.shift.toNat = s.fe.delta.toNat / 16) ∧
  (s.fe.state = .timestamp → 1 ≤ s.fe.rem.toNat ∧ s.fe.rem.toNat ≤ s.fe.len.toNat ∧
    s.fe.shift.toNat = s.fe.delta.toNat / 16 / 256 ^ (s.fe.len.toNat - s.fe.rem.toNat))

/-- R48 (e). -/
abbrev rpgInv (s : State) : Prop := s.rpg.state = .pattern ↔ s.rpg.repeats ≠ 0

/-- R48 (b), (c). -/
abbrev carryInv (s : State) : Prop :=
  s.wc.carry.toNat < 256 ^ s.wc.remain.toNat ∧ (s.wc.state = .sendExtra → s.wc.remain = 0)

/-- Inside a two-word record the source the multiplexer holds still presents a record of five bytes (R188, R207). -/
abbrev midRecordInv (s : State) : Prop :=
  s.wc.state = .sendExtra →
    (s.muxSelQ = true → s.rpg.state = .pattern ∧ s.cfg.resyncLen = 5) ∧
    (s.muxSelQ = false → s.fe.state = .emit ∧ s.fe.typ ≠ .overflow ∧ s.fe.len = 3)

/-- R48 (d), the bounds of the timer and the indices, and the header of the frame being sent (R233, R235, R239, R240). -/
abbrev framerInv (s : State) : Prop :=
  s.tf.level ≤ s.cfg.depth ∧
  s.tf.timer.toNat ≤ s.cfg.idleTimeout.toNat ∧
  (s.tf.state = .fill → s.tf.rdIdx = 0 ∧ (s.tf.level = 0 → s.tf.timer = 0)) ∧
  (s.tf.state = .sendLength ∨ s.tf.state = .sendTimestamp → s.tf.rdIdx = 0) ∧
  (s.tf.state ≠ .fill → s.tf.rdIdx < s.tf.level ∧ s.tf.lenLatch = frameLengthOf s.tf.level)

/-- The invariant of the block: R48 (a) to (f), the storage's form, and what keeps them. -/
abbrev Inv (s : State) : Prop :=
  configLegal s.cfg = true ∧ Memory.wf s = true ∧ taInv s ∧ variantInv s ∧ recordInv s ∧ shiftInv s ∧ rpgInv s ∧
    carryInv s ∧ midRecordInv s ∧ framerInv s

/-- The state an instruction leaves, for the instructions that answer a next state. -/
def after (i : Instr) (s : State) : State :=
  match exec i s with
  | .next t => t
  | .fault _ => s
  | .refused _ => s

/-- FramingEncoder's registers once a record is selected, in both variants (R26, R28, R156, R165). -/
def encoderHolding (c : Config) (fe : FramingEncoder) (r : Record) : FramingEncoder :=
  { typ := r.typ
    delta := r.delta
    len := r.len
    payload := r.payload
    state := if c.feVariant = .serial then .header else .emit
    shift := if c.feVariant = .serial then BitVec.ofNat 24 (r.delta.toNat / 16) else fe.shift
    rem := if c.feVariant = .serial then r.len else fe.rem }

/-- What selecting an Event record writes: the snapshots, the consumed count, the acknowledged latch, where a write in the
same cycle applies alone (R125, R143, R153). -/
def withEventSelected (s : State) (r : Record) : State :=
  { s with
    fe := encoderHolding s.cfg s.fe r
    ta := { count := 0, overflow := false }
    el := if s.inp.evWrite then { code := s.inp.evCode, new := true } else { code := s.el.code, new := false } }

/-- What selecting a Data or Control record writes: the snapshots and the consumed count (R125, R154). -/
def withCaptureSelected (s : State) (r : Record) : State :=
  { s with
    fe := encoderHolding s.cfg s.fe r
    ta := { count := 0, overflow := false } }

/-- The generator after one accepted repetition (R203). -/
def generatorAfterTransfer (rpg : ResyncGenerator) : ResyncGenerator :=
  if rpg.repeats = 1 then { state := .idle, repeats := 0 } else { rpg with repeats := rpg.repeats - 1 }

/-- The literal of the configuration, in stream order (R106, R201). -/
def literalOf (c : Config) : List Byte := unpack c.resyncPattern c.resyncLen.toNat

/-- `n` clock cycles of the block. -/
def clockRun : Nat → State → State
  | 0, s => s
  | n + 1, s => clockRun n (clock s)

/-- What a signal gives in the first `n` cycles, in order. -/
def collect {α : Type} (signal : State → List α) : Nat → State → List α
  | 0, _ => []
  | n + 1, s => signal s ++ collect signal n (clock s)

/-- A property of the ports holds in this cycle and in every cycle to come. -/
abbrev always (p : Inputs → Bool) (s : State) : Prop :=
  p s.inp = true ∧ p Inputs.idle = true ∧ ∀ i ∈ s.stim, p i = true

/-- No reset in this cycle nor in any to come. -/
abbrev noReset (s : State) : Prop := always (fun i => !i.rst) s

/-- The bytes of a word in stream order (R66, R102). -/
def wordBytes (w : Word) : List Byte := unpack w 4

/-- The words of the batch not yet transferred to the host (R239, R243). -/
def framerWords (s : State) : List Word := (s.tf.acc.take s.tf.level).drop s.tf.rdIdx

/-- The word in WidthConverter's holding register, if it is valid (R182). -/
def holdingWord (s : State) : List Word := if s.wc.outValid then [s.wc.outWord] else []

/-- The bytes that WidthConverter has used and the host has not received, oldest first (R39, R77). -/
def bytesInBlock (s : State) : List Byte :=
  (framerWords s ++ s.bb.queue ++ holdingWord s).flatMap wordBytes ++ unpack s.wc.carry s.wc.remain.toNat

/-- The payload bytes transferred to the host in this cycle (R243). -/
def deliveredBytes (s : State) : List Byte :=
  if s.tf.state = .sendBody ∧ hostFire s = true then wordBytes (hostData s) else []

/-- The record or literal transferred to WidthConverter in this cycle (R77). -/
def acceptedRecord (s : State) : List (List Byte) := if wciFire s then [wciBytes s] else []

/-- The byte used of a record that is not yet acknowledged (R187, R192). -/
def begunBytes (s : State) : List Byte := if wcMidRecord s then (wciBytes s).take 1 else []

/-- The word transferred to BurstBuffer in this cycle (R217). -/
def pushedWord (s : State) : List Word := if wcoFire s then [wcoWord s] else []

/-- The word transferred to TransportFramer in this cycle (R218). -/
def poppedWord (s : State) : List Word := if bbrFire s then [bbrWord s] else []

/-- The record in flight in FramingEncoder (R27). -/
def recordInFlight (s : State) : List Record := if s.fe.state = .idle then [] else [feRecord s.fe]

/-- The record created in this cycle (R151). -/
def createdRecord (s : State) : List Record := (selectedRecord s).toList

/-- The encoder record transferred in this cycle, parallel variant (R166). -/
def transferredRecord (s : State) : List Record := if recFire s then [feRecord s.fe] else []

/-- The byte transferred on the serial port in this cycle (R161). -/
def serialByte (s : State) : List Byte := if serFire s then [serData s] else []

/-- The word transferred on the host port in this cycle with `host_last` (R111, R231). -/
def hostWord (s : State) : List (Word × Bool) := if hostFire s then [(hostData s, hostLast s)] else []

end Sys2Proof.Machine
end

