-- ==== Sys2Proof/Certificates/Slice0/Obligations.lean ====
section
/-! DEFINITION. The statements for the provers: what the numbered rules of spec/ say of the model. -/

open Sys2Proof Sys2Proof.Machine

/-! ### Encodings (spec/30_encoding.md) -/

/-- Decode and encode agree on every well-formed row of the opcode table, with every operand value (R95, R96, R106, R110,
R115). The ports are the model's choice: log entry 5. -/
def Obligations.WellFormedInstructionsDecodeBack : Prop :=
  ∀ i : Instr, i.wellFormed = true → decode (encode i) = .instr i []

/-- A record's end is known from its header byte (R94, R103), whatever follows it. -/
def Obligations.RecordEndsWhereItsHeaderSays : Prop :=
  ∀ (i : Instr) (r : Record) (rest : List Byte), i.wellFormed = true → recordOf i = some r →
    decodeRecord (r.bytes ++ rest) = .instr i rest ∧
    byteCountOfHeader (r.bytes.headD 0) = r.bytes.length ∧
    r.bytes.length = byteCount r.typ r.len ∧ 2 ≤ r.bytes.length ∧ r.bytes.length ≤ 5

/-- A stream of records and literals parses back to the records and literals it was made of (R103, R107, R173). -/
def Obligations.RecordStreamParsesBack : Prop :=
  ∀ is : List Instr, (∀ i ∈ is, i.wellFormed = true ∧ (encode i).port = .stream) →
    decodeStream is.length (is.flatMap fun i => (encode i).bytes) = (is, [])

/-- Words written out from spec/95_test_vectors.md 2.2 and the table decode to what they stand for. -/
def Obligations.WrittenOutWordsDecode : Prop :=
  decode ⟨.stream, [0x3F, 0xFF, 0xFF, 0xFF]⟩ = .instr (.ovf 0xFFFFFF) [] ∧
  decode ⟨.stream, [0x64, 0x23, 0x01, 0x07]⟩ = .instr (.evtT2 0x01234 0x07) [] ∧
  decode ⟨.stream, [0xB1, 0xCD, 0xAB, 0x02, 0x99]⟩ = .instr (.datT3 0x2ABCD1 0x99) [] ∧
  decode ⟨.stream, [0xD0, 0x01, 0x2D]⟩ = .instr (.ctlT1 0x010 0x2D) [] ∧
  decode ⟨.stream, [0x50, 0x00, 0xE0]⟩ = .instr .rsy [] ∧
  decode ⟨.host .length, [0x28, 0x00, 0x00, 0x00]⟩ = .instr (.frameLength 0x28) [] ∧
  decode ⟨.line .flush, [0x01]⟩ = .instr .flush []

/-- A header byte 0x00 .. 0x3E is rejected by name (the model's choice, log entry 7: R104 says FramingEncoder never produces
it, U7 leaves a parser free). -/
def Obligations.NeverProducedHeadersRejected : Prop :=
  ∀ (h : Byte) (rest : List Byte), h.toNat < 0x3F → decodeRecord (h :: rest) = .rejected (.neverProducedHeader h)

/-- R98: the Overflow record is one fixed byte string in every case. -/
def Obligations.OverflowRecordIsFixed : Prop :=
  (∀ payload : Byte, enc .overflow taMax 3 payload = [0x3F, 0xFF, 0xFF, 0xFF]) ∧
  ∀ (s : State) (r : Record), selectedRecord s = some r → r.typ = .overflow →
    r.delta.toNat = 2 ^ 28 - 1 ∧ r.len = 3 ∧ r.bytes = [0x3F, 0xFF, 0xFF, 0xFF]

/-- R122: `TL(c)` is the least `k` with `c < 2^(4+8k)`. -/
def Obligations.TimeLengthIsLeast : Prop :=
  ∀ c : Delta, c.toNat < 2 ^ (4 + 8 * (encodedLength c).toNat) ∧
    ∀ k : Nat, c.toNat < 2 ^ (4 + 8 * k) → (encodedLength c).toNat ≤ k

/-- R99: an Event, Data or Control record has the minimal `timeLen`, so its last timestamp byte is not zero. -/
def Obligations.CreatedRecordsHaveMinimalTime : Prop :=
  ∀ (s : State) (r : Record), selectedRecord s = some r → r.typ ≠ .overflow →
    r.len = encodedLength r.delta ∧
    (r.len = 0 → r.delta.toNat < 16) ∧
    (r.len ≠ 0 → (timestampBytes r.delta r.len).getLastD 0 ≠ 0)

/-! ### TimeAccumulator (spec/40_time_accumulator.md) -/

/-- TICK: hold while overflowed (R128), raise the flag at `TA_MAX` (R124), else count (R123). -/
def Obligations.TickCountsSaturatesOrHolds : Prop :=
  ∀ s : State, s.inp.rst = false →
    (s.ta.overflow = true → exec .tick s = .next s) ∧
    (s.ta.overflow = false → s.ta.count = taMax →
      exec .tick s = .next { s with ta := { count := taMax, overflow := true } }) ∧
    (s.ta.overflow = false → s.ta.count ≠ taMax →
      exec .tick s = .next { s with ta := { count := s.ta.count + 1, overflow := false } })

/-- CONSUME (R125), also against saturation (R126); everything else is unchanged. -/
def Obligations.ConsumeClearsCountAndFlag : Prop :=
  ∀ s : State, s.inp.rst = false →
    exec .consume s = .next { s with ta := { count := 0, overflow := false } }

/-- CLEAR_OVERFLOW (R127) under both settings of `TA_CLEAR_RESETS_COUNT`; everything else is unchanged. -/
def Obligations.ClearOverflowClearsFlag : Prop :=
  ∀ s : State, s.inp.rst = false →
    (s.cfg.clearResetsCount = true → exec .clearOverflow s = .next { s with ta := { count := 0, overflow := false } }) ∧
    (s.cfg.clearResetsCount = false →
      exec .clearOverflow s = .next { s with ta := { count := s.ta.count, overflow := false } })

/-- R129: the complete next-state function in a clock cycle, in priority order; the block never drives both strobes, and if
both were driven the first branch would apply. -/
def Obligations.TimeAccumulatorFollowsItsPriorities : Prop :=
  (∀ s : State, s.inp.rst = false →
    (taConsume s = true → (clock s).ta = { count := 0, overflow := false }) ∧
    (taConsume s = false → taClear s = true →
      (clock s).ta = { count := if s.cfg.clearResetsCount then 0 else s.ta.count, overflow := false }) ∧
    (taConsume s = false → taClear s = false → s.ta.overflow = true → (clock s).ta = s.ta) ∧
    (taConsume s = false → taClear s = false → s.ta.overflow = false → s.ta.count = taMax →
      (clock s).ta = { count := taMax, overflow := true }) ∧
    (taConsume s = false → taClear s = false → s.ta.overflow = false → s.ta.count ≠ taMax →
      (clock s).ta = { count := s.ta.count + 1, overflow := false })) ∧
  (∀ s : State, ¬(taConsume s = true ∧ taClear s = true)) ∧
  (∀ (c : Config) (ta : TimeAccumulator), taNext c true true ta = { count := 0, overflow := false })

/-- R130: with no consumption the counter reads `k` after `k` ticks, and the flag rises one cycle after `TA_MAX`. -/
def Obligations.CounterSaturatesExactly : Prop :=
  ∀ s : State, always (fun i => !i.rst && !i.capValid && !i.evWrite) s →
    s.fe.state = .idle → s.el.new = false → s.ta = { count := 0, overflow := false } →
    (∀ k : Nat, k ≤ 2 ^ 28 - 1 → (clockRun k s).ta = { count := BitVec.ofNat 28 k, overflow := false }) ∧
    (∀ k : Nat, k = 2 ^ 28 → (clockRun k s).ta = { count := taMax, overflow := true })

/-- R131: `n` cycles after a consume with no strobe between, the next consume returns `n − 1`. -/
def Obligations.ConsumeMeasuresElapsedCycles : Prop :=
  ∀ (n : Nat) (s : State), noReset s → taConsume s = true → n ≤ 2 ^ 28 - 1 →
    (∀ k : Nat, 1 ≤ k → k ≤ n → taConsume (clockRun k s) = false ∧ taClear (clockRun k s) = false) →
    (clockRun (n + 1) s).ta = { count := BitVec.ofNat 28 n, overflow := false }

/-! ### EventLatch (spec/41_event_latch.md) -/

/-- WRITE (R141), overwriting a pending event (R142); everything else is unchanged. -/
def Obligations.WriteStoresTheEvent : Prop :=
  ∀ s : State, s.inp.rst = false →
    exec .write s = .next { s with el := { code := s.inp.evCode, new := true } }

/-- ACK (R143): the flag is cleared and the code kept; with a write in the same cycle the write applies alone. -/
def Obligations.AckClearsUnlessWritten : Prop :=
  ∀ s : State, s.inp.rst = false →
    (s.inp.evWrite = false → exec .ack s = .next { s with el := { code := s.el.code, new := false } }) ∧
    (s.inp.evWrite = true → exec .ack s = .next { s with el := { code := s.inp.evCode, new := true } })

/-- R144: the complete next-state function in a clock cycle. -/
def Obligations.EventLatchFollowsItsPriorities : Prop :=
  ∀ s : State, s.inp.rst = false →
    (s.inp.evWrite = true → (clock s).el = { code := s.inp.evCode, new := true }) ∧
    (s.inp.evWrite = false → elAck s = true → (clock s).el = { code := s.el.code, new := false }) ∧
    (s.inp.evWrite = false → elAck s = false → (clock s).el = s.el)

/-! ### FramingEncoder (spec/42_framing_encoder.md) -/

/-- SELECT_OVERFLOW and the form OVF with its fixed bytes (R152): constants are loaded, no strobe is asserted, nothing else
changes. -/
def Obligations.SelectOverflowLoadsConstants : Prop :=
  ∀ s : State, s.inp.rst = false → s.fe.state = .idle → s.ta.overflow = true →
    taConsume s = false ∧ elAck s = false ∧ capReady s = false ∧ taClear s = false ∧
    exec .selectOverflow s = .next { s with fe := encoderHolding s.cfg s.fe ⟨.overflow, 0xFFFFFFF, 3, 0⟩ } ∧
    exec (.ovf 0xFFFFFF) s = .next { s with fe := encoderHolding s.cfg s.fe ⟨.overflow, 0xFFFFFFF, 3, 0⟩ }

/-- SELECT_EVENT (R153): the four snapshots, the consume and the acknowledge (R143 with a write in the same cycle), and the
strobes of that cycle. -/
def Obligations.SelectEventTakesThePendingEvent : Prop :=
  ∀ s : State, s.inp.rst = false → s.fe.state = .idle → s.ta.overflow = false → s.el.new = true →
    taConsume s = true ∧ elAck s = true ∧ capReady s = false ∧
    exec .selectEvent s =
      .next (withEventSelected s ⟨.event, s.ta.count, encodedLength s.ta.count, s.el.code⟩)

/-- SELECT_DATA and SELECT_CONTROL (R154): the capture byte is taken, the count consumed, the latch untouched, and the
strobes of that cycle. -/
def Obligations.SelectCaptureTakesTheByte : Prop :=
  ∀ s : State, s.inp.rst = false → s.fe.state = .idle → s.ta.overflow = false → s.el.new = false →
    s.inp.capValid = true →
    taConsume s = true ∧ elAck s = false ∧ capReady s = true ∧ capFire s = true ∧
    (s.inp.capCtl = false → exec .selectData s =
      .next (withCaptureSelected s ⟨.data, s.ta.count, encodedLength s.ta.count, s.inp.capData⟩)) ∧
    (s.inp.capCtl = true → exec .selectControl s =
      .next (withCaptureSelected s ⟨.control, s.ta.count, encodedLength s.ta.count, s.inp.capData⟩))

/-- EVT_T0 .. EVT_T3: the selection of R153, when the record of that form is the one the arbiter creates: the elapsed count
is the form's `timeDelta`, minimal for its `timeLen` (R99), and the payload is the pending code. -/
def Obligations.EventFormsSelectTheirRecord : Prop :=
  ∀ s : State, s.inp.rst = false → s.fe.state = .idle → s.ta.overflow = false → s.el.new = true →
    (∀ d : BitVec 4, s.ta.count = d.setWidth 28 →
      exec (.evtT0 d s.el.code) s = .next (withEventSelected s ⟨.event, d.setWidth 28, 0, s.el.code⟩)) ∧
    (∀ d : BitVec 12, 16 ≤ d.toNat → s.ta.count = d.setWidth 28 →
      exec (.evtT1 d s.el.code) s = .next (withEventSelected s ⟨.event, d.setWidth 28, 1, s.el.code⟩)) ∧
    (∀ d : BitVec 20, 4096 ≤ d.toNat → s.ta.count = d.setWidth 28 →
      exec (.evtT2 d s.el.code) s = .next (withEventSelected s ⟨.event, d.setWidth 28, 2, s.el.code⟩)) ∧
    (∀ d : BitVec 28, 1048576 ≤ d.toNat → s.ta.count = d.setWidth 28 →
      exec (.evtT3 d s.el.code) s = .next (withEventSelected s ⟨.event, d.setWidth 28, 3, s.el.code⟩))

/-- DAT_T0 .. DAT_T3 and CTL_T0 .. CTL_T3: the selection of R154, when the record of that form is the one the arbiter
creates: the elapsed count is the form's `timeDelta`, minimal for its `timeLen` (R99), and the payload is the byte offered with
`cap_ctl` 0 for Data and 1 for Control. -/
def Obligations.CaptureFormsSelectTheirRecord : Prop :=
  ∀ s : State, s.inp.rst = false → s.fe.state = .idle → s.ta.overflow = false → s.el.new = false →
    s.inp.capValid = true →
    (∀ d : BitVec 4, s.inp.capCtl = false → s.ta.count = d.setWidth 28 →
      exec (.datT0 d s.inp.capData) s = .next (withCaptureSelected s ⟨.data, d.setWidth 28, 0, s.inp.capData⟩)) ∧
    (∀ d : BitVec 12, s.inp.capCtl = false → 16 ≤ d.toNat → s.ta.count = d.setWidth 28 →
      exec (.datT1 d s.inp.capData) s = .next (withCaptureSelected s ⟨.data, d.setWidth 28, 1, s.inp.capData⟩)) ∧
    (∀ d : BitVec 20, s.inp.capCtl = false → 4096 ≤ d.toNat → s.ta.count = d.setWidth 28 →
      exec (.datT2 d s.inp.capData) s = .next (withCaptureSelected s ⟨.data, d.setWidth 28, 2, s.inp.capData⟩)) ∧
    (∀ d : BitVec 28, s.inp.capCtl = false → 1048576 ≤ d.toNat → s.ta.count = d.setWidth 28 →
      exec (.datT3 d s.inp.capData) s = .next (withCaptureSelected s ⟨.data, d.setWidth 28, 3, s.inp.capData⟩)) ∧
    (∀ d : BitVec 4, s.inp.capCtl = true → s.ta.count = d.setWidth 28 →
      exec (.ctlT0 d s.inp.capData) s = .next (withCaptureSelected s ⟨.control, d.setWidth 28, 0, s.inp.capData⟩)) ∧
    (∀ d : BitVec 12, s.inp.capCtl = true → 16 ≤ d.toNat → s.ta.count = d.setWidth 28 →
      exec (.ctlT1 d s.inp.capData) s = .next (withCaptureSelected s ⟨.control, d.setWidth 28, 1, s.inp.capData⟩)) ∧
    (∀ d : BitVec 20, s.inp.capCtl = true → 4096 ≤ d.toNat → s.ta.count = d.setWidth 28 →
      exec (.ctlT2 d s.inp.capData) s = .next (withCaptureSelected s ⟨.control, d.setWidth 28, 2, s.inp.capData⟩)) ∧
    (∀ d : BitVec 28, s.inp.capCtl = true → 1048576 ≤ d.toNat → s.ta.count = d.setWidth 28 →
      exec (.ctlT3 d s.inp.capData) s = .next (withCaptureSelected s ⟨.control, d.setWidth 28, 3, s.inp.capData⟩))

/-- A selection that is not the arbiter's outcome, and a record form of another record than the arbiter creates, select
nothing (R151; that they then change nothing is the model's choice, log entry 6). -/
def Obligations.OtherSelectionsChangeNothing : Prop :=
  ∀ s : State, s.inp.rst = false →
    (arbiter s ≠ .overflow → exec .selectOverflow s = .next s) ∧
    (arbiter s ≠ .event → exec .selectEvent s = .next s) ∧
    (arbiter s ≠ .capture ∨ s.inp.capCtl = true → exec .selectData s = .next s) ∧
    (arbiter s ≠ .capture ∨ s.inp.capCtl = false → exec .selectControl s = .next s) ∧
    (∀ (i : Instr) (r : Record), recordOf i = some r → selectedRecord s ≠ some r → exec i s = .next s)

/-- R151: the strict priority overflow, event, capture, looked at in `IDLE` only; R171: the two strobes of a selection; and
the third, `ta_clear`: it is asserted in exactly the cycle in which the last transfer of an Overflow record is accepted (R160,
R166). -/
def Obligations.ArbiterHasStrictPriority : Prop :=
  ∀ s : State,
    (s.fe.state ≠ .idle → arbiter s = .none ∧ taConsume s = false ∧ elAck s = false ∧ capReady s = false) ∧
    (s.fe.state = .idle → s.ta.overflow = true →
      arbiter s = .overflow ∧ taConsume s = false ∧ elAck s = false ∧ capReady s = false) ∧
    (s.fe.state = .idle → s.ta.overflow = false → s.el.new = true →
      arbiter s = .event ∧ taConsume s = true ∧ elAck s = true ∧ capReady s = false) ∧
    (s.fe.state = .idle → s.ta.overflow = false → s.el.new = false →
      arbiter s = (if s.inp.capValid then .capture else .none) ∧ taConsume s = s.inp.capValid ∧ elAck s = false ∧
      capReady s = !s.inp.rst) ∧
    (Inv s → s.inp.rst = false → s.cfg.feVariant = .parallel →
      (taClear s = true ↔ recFire s = true ∧ s.fe.typ = .overflow)) ∧
    (Inv s → s.inp.rst = false → s.cfg.feVariant = .serial →
      (taClear s = true ↔ serFire s = true ∧ s.fe.typ = .overflow ∧
        (s.fe.state = .timestamp ∧ s.fe.rem = 1 ∨ s.fe.state = .header ∧ s.fe.len = 0)))

/-- R169, serial side (R157 to R159): nothing is presented in `IDLE` (R161), and from `HEADER` with a consumer that is always
ready, the bytes sent until `IDLE` are the record's encoding. -/
def Obligations.SerialVariantSendsTheEncoding : Prop :=
  (∀ s : State, s.fe.state = .idle → serValid s = false) ∧
  ∀ s : State, Inv s → s.cfg.feVariant = .serial → always (fun i => !i.rst && i.serReady) s → s.fe.state = .header →
    collect serialByte (byteCount s.fe.typ s.fe.len) s = enc s.fe.typ s.fe.delta s.fe.len s.fe.payload ∧
    (clockRun (byteCount s.fe.typ s.fe.len) s).fe.state = .idle

/-- R169, parallel side (R166): the slot presented in `EMIT` holds the record's encoding. -/
def Obligations.ParallelVariantPresentsTheEncoding : Prop :=
  ∀ s : State, Inv s → s.fe.state = .emit →
    recValid s = true ∧
    unpack (recSlot s) ((recLencode s).toNat + 2) = enc s.fe.typ s.fe.delta s.fe.len s.fe.payload

/-- Records leave FramingEncoder in the order of their creation, none lost, at most one in flight (R27, R75, R170). -/
def Obligations.EncoderKeepsRecordOrder : Prop :=
  ∀ (n : Nat) (s : State), Inv s → s.cfg.feVariant = .parallel → noReset s →
    recordInFlight s ++ collect createdRecord n s =
      collect transferredRecord n s ++ recordInFlight (clockRun n s)

/-- R61, R162, R250: what a stage presents stays until it is accepted. -/
def Obligations.PresentedDataIsHeldUntilAccepted : Prop :=
  ∀ s : State, Inv s → s.inp.rst = false →
    (recValid s = true → recFire s = false →
      recValid (clock s) = true ∧ recSlot (clock s) = recSlot s ∧ recLencode (clock s) = recLencode s) ∧
    (rpgValid s = true → rpgFire s = false →
      rpgValid (clock s) = true ∧ rpgSlot (clock s) = rpgSlot s ∧ rpgLencode (clock s) = rpgLencode s) ∧
    (wcoValid s = true → wcoFire s = false → wcoValid (clock s) = true ∧ wcoWord (clock s) = wcoWord s) ∧
    (bbrValid s = true → bbrFire s = false → bbrValid (clock s) = true ∧ bbrWord (clock s) = bbrWord s) ∧
    (serValid s = true → serFire s = false →
      serData (clock s) = serData s ∧ serValid (clock s) = !(clock s).inp.rst) ∧
    (hostValid s = true → hostFire s = false →
      hostData (clock s) = hostData s ∧ hostValid (clock s) = (!(clock s).inp.rst) ∧
      hostLast (clock s) = (!(clock s).inp.rst && hostLast s))

/-! ### ResyncPatternGenerator and multiplexer (spec/44_resync_pattern_generator.md) -/

/-- START (R202, R204): from `IDLE` with a repeat count that is not 0 the burst begins; else nothing changes. -/
def Obligations.StartBeginsABurst : Prop :=
  ∀ s : State, s.inp.rst = false → s.cfg.feVariant = .parallel →
    (s.rpg.state = .idle → s.cfg.resyncRepeat ≠ 0 →
      exec .start s = .next { s with rpg := { state := .pattern, repeats := s.cfg.resyncRepeat } }) ∧
    (s.rpg.state = .idle → s.cfg.resyncRepeat = 0 → exec .start s = .next s) ∧
    (s.rpg.state = .pattern → exec .start s = .next s)

/-- RSY (R203, R184, R185): outside a two-word record an accepted repetition counts down and its bytes go to the carry, with a
word once there are four; a repetition that needs the full holding register waits (R183). That RSY invoked by itself takes
WidthConverter's side of the transfer and `mux_sel_q` with it, and records `mux_sel_q` when it waits, is the model's choice
(log entry 11). -/
def Obligations.LiteralTransferCountsDown : Prop :=
  ∀ s : State, s.inp.rst = false → configLegal s.cfg = true → s.cfg.feVariant = .parallel → s.rpg.state = .pattern →
    s.wc.state = .normal →
    (s.wc.remain.toNat + s.cfg.resyncLen.toNat < 4 →
      exec .rsy s = .next { s with
        rpg := generatorAfterTransfer s.rpg
        muxSelQ := true
        wc := { s.wc with
          carry := pack 24 (unpack s.wc.carry s.wc.remain.toNat ++ literalOf s.cfg)
          remain := BitVec.ofNat 2 (s.wc.remain.toNat + s.cfg.resyncLen.toNat) } }) ∧
    (4 ≤ s.wc.remain.toNat + s.cfg.resyncLen.toNat → s.wc.remain.toNat + s.cfg.resyncLen.toNat < 8 →
      s.wc.outValid = false →
      exec .rsy s = .next { s with
        rpg := generatorAfterTransfer s.rpg
        muxSelQ := true
        wc := { s.wc with
          outWord := pack 32 ((unpack s.wc.carry s.wc.remain.toNat ++ literalOf s.cfg).take 4)
          outValid := true
          carry := pack 24 ((unpack s.wc.carry s.wc.remain.toNat ++ literalOf s.cfg).drop 4)
          remain := BitVec.ofNat 2 (s.wc.remain.toNat + s.cfg.resyncLen.toNat - 4) } }) ∧
    (4 ≤ s.wc.remain.toNat + s.cfg.resyncLen.toNat → s.wc.outValid = true →
      exec .rsy s = .next { s with muxSelQ := true })

/-- RSY in the two-word case (R187, R188, R207): the first cycle uses one byte and acknowledges nothing, the second sends the
last four and counts down. That RSY invoked by itself takes WidthConverter's side and `mux_sel_q` with it, and that with an idle
or unselected generator it changes nothing, `mux_sel_q` included, is the model's choice (log entry 11). -/
def Obligations.LiteralInTheTwoWordCase : Prop :=
  ∀ s : State, s.inp.rst = false → configLegal s.cfg = true → s.cfg.feVariant = .parallel →
    (s.rpg.state = .pattern → s.wc.state = .normal → s.wc.remain.toNat + s.cfg.resyncLen.toNat = 8 →
      s.wc.outValid = false →
      exec .rsy s = .next { s with
        muxSelQ := true
        wc := { carry := 0, remain := 0, state := .sendExtra, outValid := true,
                outWord := pack 32 ((unpack s.wc.carry s.wc.remain.toNat ++ literalOf s.cfg).take 4) } }) ∧
    (s.rpg.state = .pattern → s.wc.state = .sendExtra → s.muxSelQ = true → s.wc.outValid = false →
      exec .rsy s = .next { s with
        rpg := generatorAfterTransfer s.rpg
        wc := { s.wc with
          outWord := pack 32 ((literalOf s.cfg).drop 1)
          outValid := true
          state := .normal } }) ∧
    (s.rpg.state = .idle → exec .rsy s = .next s) ∧
    (s.wc.state = .sendExtra → s.muxSelQ = false → exec .rsy s = .next s)

/-- R206, R207: the generator has priority at the multiplexer, inside a record the selection is held, and it is recorded
every cycle; the selected source's valid and bytes are what WidthConverter sees, and its acceptance is the source's alone. -/
def Obligations.MultiplexerHoldsInsideARecord : Prop :=
  ∀ s : State, s.inp.rst = false → s.cfg.feVariant = .parallel →
    (wcMidRecord s = false → muxSel s = rpgBusy s) ∧
    (wcMidRecord (clock s) = true → muxSel (clock s) = muxSel s) ∧
    (clock s).muxSelQ = muxSel s ∧
    (rpgValid s = true ↔ s.rpg.state = .pattern) ∧
    (recValid s = true ↔ s.fe.state = .emit) ∧
    (muxSel s = true →
      wciValid s = rpgValid s ∧ rpgReady s = wciReady s ∧ rpgFire s = wciFire s ∧ recReady s = false ∧ recFire s = false ∧
      (configLegal s.cfg = true → wciBytes s = literalOf s.cfg)) ∧
    (muxSel s = false →
      wciValid s = recValid s ∧ recReady s = wciReady s ∧ recFire s = wciFire s ∧ rpgReady s = false ∧ rpgFire s = false ∧
      (Inv s → recValid s = true → wciBytes s = (feRecord s.fe).bytes))

/-- R209 (a), (b): while the generator is busy the only encoder record that can be acknowledged is one whose first byte was
used before. -/
def Obligations.BusyGeneratorExcludesTheEncoder : Prop :=
  ∀ s : State, Inv s → rpgBusy s = true →
    (wcMidRecord s = false → recFire s = false) ∧
    (recFire s = true → s.wc.state = .sendExtra ∧ s.muxSelQ = false ∧ (wciBytes s).length = 5)

/-- R203, R209 (c): what a burst sends are literals only, one for each repetition counted down. -/
def Obligations.BurstSendsItsLiterals : Prop :=
  ∀ (n : Nat) (s : State), Inv s → s.cfg.feVariant = .parallel → noReset s → s.wc.state = .normal →
    (∀ k : Nat, k < n → (clockRun k s).rpg.state = .pattern) →
    ∃ m : Nat, collect acceptedRecord n s = List.replicate m (literalOf s.cfg) ∧
      m + (clockRun n s).rpg.repeats.toNat = s.rpg.repeats.toNat

/-! ### WidthConverter (spec/43_width_converter.md) -/

/-- R183: when a presented record is accepted; R184, R185, R187, R188: what one clock cycle does with it, by the number of
bytes on hand. -/
def Obligations.WidthConverterTakesByBytesOnHand : Prop :=
  ∀ s : State, s.inp.rst = false → s.cfg.feVariant = .parallel → wciValid s = true →
    (wciFire s = true ↔
      (s.wc.state = .normal ∧ s.wc.remain.toNat + (wciBytes s).length < 4) ∨
      (s.wc.state = .normal ∧ s.wc.remain.toNat + (wciBytes s).length < 8 ∧ s.wc.outValid = false) ∨
      (s.wc.state = .sendExtra ∧ s.wc.outValid = false)) ∧
    (s.wc.state = .normal → s.wc.remain.toNat + (wciBytes s).length < 4 →
      (clock s).wc = { s.wc with
        carry := pack 24 (unpack s.wc.carry s.wc.remain.toNat ++ wciBytes s)
        remain := BitVec.ofNat 2 (s.wc.remain.toNat + (wciBytes s).length)
        outValid := s.wc.outValid && !wcoFire s }) ∧
    (s.wc.state = .normal → s.wc.outValid = false → 4 ≤ s.wc.remain.toNat + (wciBytes s).length →
      s.wc.remain.toNat + (wciBytes s).length < 8 →
      (clock s).wc = { s.wc with
        outWord := pack 32 ((unpack s.wc.carry s.wc.remain.toNat ++ wciBytes s).take 4)
        outValid := true
        carry := pack 24 ((unpack s.wc.carry s.wc.remain.toNat ++ wciBytes s).drop 4)
        remain := BitVec.ofNat 2 (s.wc.remain.toNat + (wciBytes s).length - 4) }) ∧
    (s.wc.state = .normal → s.wc.outValid = false → s.wc.remain.toNat + (wciBytes s).length = 8 →
      (clock s).wc =
        { outWord := pack 32 ((unpack s.wc.carry s.wc.remain.toNat ++ wciBytes s).take 4)
          outValid := true, carry := 0, remain := 0, state := .sendExtra }) ∧
    (s.wc.state = .sendExtra → s.wc.outValid = false →
      (clock s).wc = { s.wc with
        outWord := pack 32 ((wciBytes s).drop 1), outValid := true, state := .normal }) ∧
    (s.wc.outValid = true → 4 ≤ s.wc.remain.toNat + (wciBytes s).length ∨ s.wc.state = .sendExtra →
      (clock s).wc = { s.wc with outValid := !wcoFire s })

/-- R192, R81, R77: over any run without reset that starts outside a record, the payload bytes the host received and the bytes
still in the block are the bytes of the block at the start and the accepted records, byte for byte and in order, with the first
byte of a record that is begun. -/
def Obligations.NoByteIsLostOrReordered : Prop :=
  ∀ (n : Nat) (s : State), Inv s → s.cfg.feVariant = .parallel → noReset s → s.wc.state = .normal →
    collect deliveredBytes n s ++ bytesInBlock (clockRun n s) =
      bytesInBlock s ++ (collect acceptedRecord n s).flatten ++ begunBytes (clockRun n s)

/-! ### BurstBuffer (spec/45_burst_buffer.md) -/

/-- PUSH: accepted (R217, R182), refused and counted with saturation (R220), nothing presented. That PUSH invoked by itself
takes both sides of the handshake, counts the refused cycle and changes nothing with no word is the model's choice (log
entry 11). -/
def Obligations.PushMovesOrCountsTheWord : Prop :=
  ∀ s : State, s.inp.rst = false → s.cfg.feVariant = .parallel →
    (s.wc.outValid = true → s.bb.queue.length < s.cfg.bbDepth →
      exec .push s = .next { s with
        bb := { s.bb with queue := s.bb.queue ++ [s.wc.outWord] }
        wc := { s.wc with outValid := false } }) ∧
    (s.wc.outValid = true → s.cfg.bbDepth ≤ s.bb.queue.length → s.bb.refused.toNat < 2 ^ 32 - 1 →
      exec .push s = .next { s with bb := { s.bb with refused := s.bb.refused + 1 } }) ∧
    (s.wc.outValid = true → s.cfg.bbDepth ≤ s.bb.queue.length → s.bb.refused.toNat = 2 ^ 32 - 1 →
      exec .push s = .next s) ∧
    (s.wc.outValid = false → exec .push s = .next s)

/-- POP (R218, R234): the head moves into the frame accumulator at the level; the word array changes nowhere else. That POP
invoked by itself takes both sides of the handshake, zeroes the idle timer as R235 and R238 say but does not count it up, and
changes nothing where no word is accepted, is the model's choice (log entry 11). -/
def Obligations.PopDeliversTheOldestWord : Prop :=
  ∀ (s : State) (w : Word) (rest : List Word), s.inp.rst = false → s.cfg.feVariant = .parallel →
    s.bb.queue = w :: rest →
    (s.tf.state = .fill → tfTrigger s.cfg s.tf = false →
      exec .pop s = .next { s with
        bb := { s.bb with queue := rest }
        tf := { s.tf with
          acc := s.tf.acc.set s.tf.level w
          level := s.tf.level + 1
          timer := if s.tf.level = 0 ∨ s.cfg.timerRestartOnWord = true then 0 else s.tf.timer } }) ∧
    (s.tf.state ≠ .fill ∨ tfTrigger s.cfg s.tf = true → exec .pop s = .next s)

/-- R216, R233: when a word is pushed and when one is popped; R219, R220: push, pop and the refused counter in one clock cycle;
the queue never exceeds its capacity. -/
def Obligations.BurstBufferPushesAndPopsTogether : Prop :=
  ∀ s : State, s.inp.rst = false → s.cfg.feVariant = .parallel →
    (wcoReady s = true ↔ s.bb.queue.length < s.cfg.bbDepth) ∧
    (wcoFire s = true ↔ s.wc.outValid = true ∧ s.bb.queue.length < s.cfg.bbDepth) ∧
    (bbrValid s = true ↔ 0 < s.bb.queue.length) ∧
    (∀ w : Word, s.bb.queue.head? = some w → bbrWord s = w) ∧
    (bbrFire s = true ↔ 0 < s.bb.queue.length ∧ s.tf.state = .fill ∧ tfTrigger s.cfg s.tf = false) ∧
    (clock s).bb.queue = (if bbrFire s then s.bb.queue.tail else s.bb.queue) ++
      (if s.wc.outValid = true ∧ s.bb.queue.length < s.cfg.bbDepth then [s.wc.outWord] else []) ∧
    (s.bb.queue.length ≤ s.cfg.bbDepth → (clock s).bb.queue.length ≤ s.cfg.bbDepth) ∧
    (clock s).bb.refused.toNat =
      (if s.wc.outValid = true ∧ s.cfg.bbDepth ≤ s.bb.queue.length then min (s.bb.refused.toNat + 1) (2 ^ 32 - 1)
       else s.bb.refused.toNat)

/-- R224: the words read are, in order, those queued at the start and those pushed, and the queue is the difference. -/
def Obligations.WordsLeaveInArrivalOrder : Prop :=
  ∀ (n : Nat) (s : State), noReset s → s.cfg.feVariant = .parallel →
    s.bb.queue ++ collect pushedWord n s = collect poppedWord n s ++ (clockRun n s).bb.queue

/-! ### TransportFramer (spec/46_transport_framer.md) -/

/-- FLUSH (R236, R240): header latched and sending begun when the trigger of R232 is true in `FILL`, with no word accepted in
that cycle, which the clock takes at once. That FLUSH invoked by itself changes nothing where no flush is due is the model's choice
(log entry 15). -/
def Obligations.FlushLatchesTheHeader : Prop :=
  ∀ s : State, s.inp.rst = false → s.cfg.feVariant = .parallel →
    (s.tf.state = .fill →
      (s.cfg.depth ≤ s.tf.level ∨ (0 < s.tf.level ∧ s.cfg.idleTimeout.toNat ≤ s.tf.timer.toNat)) →
      bbrReady s = false ∧ (clock s).tf.state = .sendLength ∧ exec .flush s = .next { s with tf := { s.tf with
        lenLatch := BitVec.ofNat 32 (8 + 4 * s.tf.level), tsLatch := s.tf.clock, rdIdx := 0, state := .sendLength } }) ∧
    (s.tf.state = .fill → s.tf.level < s.cfg.depth →
      (s.tf.level = 0 ∨ s.tf.timer.toNat < s.cfg.idleTimeout.toNat) → exec .flush s = .next s) ∧
    (s.tf.state ≠ .fill → exec .flush s = .next s)

/-- FRAME_LENGTH (R241) and FRAME_TIMESTAMP (R242): the latched word is presented; accepted, the next word follows; otherwise
nothing changes. -/
def Obligations.FrameHeaderWordsAreSent : Prop :=
  ∀ s : State, s.inp.rst = false → s.cfg.feVariant = .parallel →
    (s.tf.state = .sendLength → hostData s = s.tf.lenLatch ∧
      (s.inp.hostReady = true →
        exec (.frameLength s.tf.lenLatch) s = .next { s with tf := { s.tf with state := .sendTimestamp } }) ∧
      (s.inp.hostReady = false → exec (.frameLength s.tf.lenLatch) s = .next s)) ∧
    (s.tf.state = .sendTimestamp → hostData s = s.tf.tsLatch ∧
      (s.inp.hostReady = true →
        exec (.frameTimestamp s.tf.tsLatch) s = .next { s with tf := { s.tf with state := .sendBody } }) ∧
      (s.inp.hostReady = false → exec (.frameTimestamp s.tf.tsLatch) s = .next s))

/-- FRAME_PAYLOAD (R243, R244): the next body word, or the end of the frame after the last. -/
def Obligations.FramePayloadWordIsSent : Prop :=
  ∀ (s : State) (w : Word), s.inp.rst = false → s.cfg.feVariant = .parallel → s.inp.hostReady = true →
    s.tf.state = .sendBody → s.tf.acc[s.tf.rdIdx]? = some w →
    hostData s = w ∧
    (s.tf.rdIdx + 1 = s.tf.level → hostLast s = true ∧
      exec (.framePayload w) s =
        .next { s with tf := { s.tf with state := .fill, level := 0, timer := 0, rdIdx := 0 } }) ∧
    (s.tf.rdIdx + 1 ≠ s.tf.level → hostLast s = false ∧
      exec (.framePayload w) s = .next { s with tf := { s.tf with rdIdx := s.tf.rdIdx + 1 } })

/-- The host port by state (R231); and a frame word the block does not present, or the host does not accept, is not sent (R62;
that it then changes nothing is the model's choice, log entry 15). -/
def Obligations.FrameWordsNotPresentedWait : Prop :=
  ∀ (s : State) (w : Word), s.inp.rst = false →
    (hostValid s = true ↔ s.tf.state ≠ .fill) ∧
    (hostLast s = true ↔ s.tf.state = .sendBody ∧ s.tf.rdIdx + 1 = s.tf.level) ∧
    (s.inp.hostReady = false ∨ s.tf.state ≠ .sendLength ∨ w ≠ s.tf.lenLatch → exec (.frameLength w) s = .next s) ∧
    (s.inp.hostReady = false ∨ s.tf.state ≠ .sendTimestamp ∨ w ≠ s.tf.tsLatch → exec (.frameTimestamp w) s = .next s) ∧
    (s.inp.hostReady = false ∨ s.tf.state ≠ .sendBody ∨ w ≠ hostData s → exec (.framePayload w) s = .next s)

/-- R237: the free-running counter is 0 in cycle 0, every cycle with `rst` 0 counts it, and no other operation but reset
writes it. -/
def Obligations.FreeRunningCounterOnlyCountsCycles : Prop :=
  (∀ c : Config, (State.resetWith c).tf.clock = 0) ∧
  (∀ s : State, s.inp.rst = false → s.cfg.feVariant = .parallel → (clock s).tf.clock = s.tf.clock + 1) ∧
  (∀ (i : Instr) (s t : State), i ≠ .reset → s.inp.rst = false → exec i s = .next t → t.tf.clock = s.tf.clock)

/-- R235, R238: the idle timer in every clock cycle, kept in a flush cycle and while sending and zeroed at the end of a frame
(R244); and R232, R235, R236: a batch with no further words is flushed when the timer reaches the timeout, with its level and
the clock of the flush cycle. -/
def Obligations.IdleBatchIsFlushedAtTheTimeout : Prop :=
  (∀ s : State, s.inp.rst = false → s.cfg.feVariant = .parallel →
    (s.tf.state = .fill → tfTrigger s.cfg s.tf = false →
      (clock s).tf.timer =
        if s.tf.level = 0 then 0
        else if s.cfg.timerRestartOnWord = true ∧ bbrFire s = true then 0
        else s.tf.timer + 1) ∧
    (s.tf.state = .fill → tfTrigger s.cfg s.tf = true → (clock s).tf.timer = s.tf.timer) ∧
    (s.tf.state ≠ .fill → hostFire s = true → hostLast s = true → (clock s).tf.timer = 0) ∧
    (s.tf.state ≠ .fill → hostFire s = false ∨ hostLast s = false → (clock s).tf.timer = s.tf.timer)) ∧
  ∀ s : State, Inv s → s.cfg.feVariant = .parallel → noReset s → s.tf.state = .fill → 0 < s.tf.level →
    s.tf.level < s.cfg.depth → s.tf.timer = 0 →
    (∀ k : Nat, k < s.cfg.idleTimeout.toNat → bbrValid (clockRun k s) = false) →
    (clockRun s.cfg.idleTimeout.toNat s).tf.state = .fill ∧
    (clockRun (s.cfg.idleTimeout.toNat + 1) s).tf.state = .sendLength ∧
    (clockRun (s.cfg.idleTimeout.toNat + 1) s).tf.lenLatch = BitVec.ofNat 32 (8 + 4 * s.tf.level) ∧
    (clockRun (s.cfg.idleTimeout.toNat + 1) s).tf.tsLatch = s.tf.clock + s.cfg.idleTimeout

/-- R111, R251: a frame on the host port is its length, its timestamp and its batch, `host_last` on the last word only, and
then the framer fills again from empty. -/
def Obligations.FrameGoesOutWhole : Prop :=
  ∀ s : State, Inv s → s.cfg.feVariant = .parallel → always (fun i => !i.rst && i.hostReady) s →
    s.tf.state = .sendLength →
    collect hostWord (2 + s.tf.level) s =
      (BitVec.ofNat 32 (8 + 4 * s.tf.level), false) :: (s.tf.tsLatch, false) ::
        (s.tf.acc.take s.tf.level).zip (List.replicate (s.tf.level - 1) false ++ [true]) ∧
    (clockRun (2 + s.tf.level) s).tf.state = .fill ∧ (clockRun (2 + s.tf.level) s).tf.level = 0

/-- R250: with the host not ready a sending state keeps everything but the free-running counter. -/
def Obligations.HostStallHoldsTheFrame : Prop :=
  ∀ s : State, s.inp.rst = false → s.cfg.feVariant = .parallel → s.tf.state ≠ .fill → s.inp.hostReady = false →
    (clock s).tf = { s.tf with clock := s.tf.clock + 1 } ∧
    hostData (clock s) = hostData s ∧
    ((clock s).inp.rst = false → hostValid (clock s) = hostValid s ∧ hostLast (clock s) = hostLast s)

/-! ### Reset (spec/70_reset_and_hazards.md) -/

/-- RESET answers a next state that differs from S(0) in the ports and the configuration only (R21, R280); and in a clock
cycle with `rst`, whatever else is asserted, every register, the queue and the level take the values of R47. That the words of
`tf_acc` are zeros after RESET, which R47 leaves unspecified, is the model's choice (log entry 9), and so is that RESET acts
whatever the port `rst` reads (log entry 16). -/
def Obligations.ResetTakesTheResetValues : Prop :=
  (∀ s : State, exec .reset s =
    .next { State.resetWith s.cfg with inp := s.inp, stim := s.stim, issue := s.issue }) ∧
  ∀ (s t : State), exec .reset s = .next t ∨ (s.inp.rst = true ∧ t = clock s) →
    t.ta = { count := 0, overflow := false } ∧
    t.el = { code := 0, new := false } ∧
    t.fe = { typ := .overflow, delta := 0, len := 0, payload := 0, state := .idle, shift := 0, rem := 0 } ∧
    t.rpg = { state := .idle, repeats := 0 } ∧
    t.muxSelQ = false ∧
    t.wc = { carry := 0, remain := 0, state := .normal, outWord := 0, outValid := false } ∧
    t.bb = { queue := [], refused := 0 } ∧
    t.tf.state = .fill ∧ t.tf.level = 0 ∧ t.tf.rdIdx = 0 ∧ t.tf.timer = 0 ∧ t.tf.clock = 0 ∧
    t.tf.lenLatch = 0 ∧ t.tf.tsLatch = 0

/-- R15, R260 first row: with `rst` every operation of the table is overridden by the reset (carried over from a cycle to an
operation invoked by itself: the model's choice, log entry 16). -/
def Obligations.ResetOverridesEveryOperation : Prop :=
  ∀ (i : Instr) (s : State), s.inp.rst = true → exec i s = exec .reset s

/-- R281: no external handshake in a reset cycle; the ports of the reset state. -/
def Obligations.PortsAreQuietDuringReset : Prop :=
  (∀ s : State, s.inp.rst = true →
    capReady s = false ∧ hostValid s = false ∧ hostLast s = false ∧ serValid s = false ∧
    (clock s).el.new = false ∧ rpgBusy (clock s) = false) ∧
  (∀ c : Config, capReady (State.resetWith c) = true ∧ hostValid (State.resetWith c) = false ∧
    serValid (State.resetWith c) = false ∧ recValid (State.resetWith c) = false ∧
    rpgValid (State.resetWith c) = false ∧ wciValid (State.resetWith c) = false ∧ wcoValid (State.resetWith c) = false ∧
    bbrValid (State.resetWith c) = false ∧ rpgBusy (State.resetWith c) = false ∧
    (State.resetWith c).ta.overflow = false ∧ (State.resetWith c).bb.refused = 0)

/-! ### The step -/

/-- The step runs the instruction that the issue slot's bytes decode to, with the slot emptied, and nothing around it (the
issue slot is the model's, log entry 4). -/
def Obligations.StepRunsTheIssuedInstruction : Prop :=
  ∀ (s : State) (p : Issue) (i : Instr) (rest : List Byte), configLegal s.cfg = true → s.issue = some p →
    decode p = .instr i rest → step s = exec i { s with issue := none }

/-- With nothing issued the step is one clock cycle (R11, R13). -/
def Obligations.StepClocksWhenNothingIsIssued : Prop :=
  ∀ s : State, configLegal s.cfg = true → s.issue = none → step s = .next (clock s)

/-- What the step refuses: an illegal configuration (R267, U6) and bytes that encode no row of the table (log entry 7). -/
def Obligations.StepRefusesByName : Prop :=
  (∀ s : State, configLegal s.cfg = false → step s = .refused .illegalConfiguration) ∧
  (∀ (s : State) (p : Issue) (e : DecodeError), configLegal s.cfg = true → s.issue = some p → decode p = .rejected e →
    step s = .refused (.undecodable e))

/-- R255: no operation stops the block: under a legal configuration every instruction, and every cycle with nothing issued,
answers a next state, whatever the state. -/
def Obligations.NothingStopsTheBlock : Prop :=
  (∀ (i : Instr) (s : State), ∃ t : State, exec i s = .next t) ∧
  (∀ s : State, configLegal s.cfg = true → s.issue = none → ∃ t : State, step s = .next t) ∧
  (∀ (i : Instr) (s : State), configLegal s.cfg = true → i.wellFormed = true → s.issue = some (encode i) →
    ∃ t : State, step s = .next t)

/-- R48 with what keeps it: every step from a state with the invariant leads to one with it. -/
def Obligations.StepKeepsTheInvariant : Prop :=
  ∀ s t : State, Inv s → step s = .next t → Inv t

/-- The reset state of every legal configuration has the invariant, that of State.reset among them (R47, R48). -/
def Obligations.ResetStateHasTheInvariant : Prop :=
  (∀ c : Config, configLegal c = true → Inv (State.resetWith c)) ∧ Inv State.reset

/-- R21: no step changes the configuration inputs or the structural parameters. -/
def Obligations.StepKeepsTheConfiguration : Prop :=
  ∀ s t : State, step s = .next t → t.cfg = s.cfg

/-- R22, R60: an operation of the table writes the components it names and no other (the ports and the environment's list
are never written by an operation). That RSY, PUSH and POP name both sides of their handshake is the model's choice (log
entry 11). -/
def Obligations.OperationsWriteTheirOwnComponents : Prop :=
  ∀ (i : Instr) (s t : State), s.inp.rst = false → i ≠ .reset → exec i s = .next t →
    t.inp = s.inp ∧ t.stim = s.stim ∧ t.issue = s.issue ∧
    ((∀ r : Record, recordOf i = some r → r.typ = .overflow) →
      i ∉ [.tick, .consume, .clearOverflow, .selectEvent, .selectData, .selectControl] → t.ta = s.ta) ∧
    ((∀ r : Record, recordOf i = some r → r.typ ≠ .event) → i ∉ [.write, .ack, .selectEvent] → t.el = s.el) ∧
    (recordOf i = none → i ∉ [.selectOverflow, .selectEvent, .selectData, .selectControl] → t.fe = s.fe) ∧
    (i ∉ [.start, .rsy] → t.rpg = s.rpg) ∧
    (i ≠ .rsy → t.muxSelQ = s.muxSelQ) ∧
    (i ∉ [.rsy, .push] → t.wc = s.wc) ∧
    (i ∉ [.push, .pop] → t.bb = s.bb) ∧
    (i ∉ [.pop, .flush] → (∀ w : Word, i ∉ [.frameLength w, .frameTimestamp w, .framePayload w]) → t.tf = s.tf)

/-- For each operation whose strobe is asserted, the clock cycle gives the registers that the operation writes what the
operation gives them (R13, R115). Where both sides of the queue or of the holding register move in one cycle the two
operations follow one another (R182, R219); the cycle counts the free-running counter and, with a word accepted, the idle
timer besides (R235, R237), which the operations by themselves do not (the model's choice, log entries 4 and 11). A transfer of
FramingEncoder's own record to WidthConverter is no operation of the table; FramingEncoder's side of it, and what each component
keeps in a cycle without a strobe, are stated with the rest (R15, R166, R205). The stages after FramingEncoder are built with
the parallel variant (R45). -/
def Obligations.ClockRunsTheStrobedOperations : Prop :=
  (∀ s : State, s.inp.rst = false →
    (taConsume s = true → (clock s).ta = (after .consume s).ta) ∧
    (taConsume s = false → taClear s = true → (clock s).ta = (after .clearOverflow s).ta) ∧
    (taConsume s = false → taClear s = false → (clock s).ta = (after .tick s).ta) ∧
    (s.inp.evWrite = true → (clock s).el = (after .write s).el) ∧
    (elAck s = true → (clock s).el = (after .ack s).el) ∧
    (arbiter s = .overflow → (clock s).fe = (after .selectOverflow s).fe) ∧
    (arbiter s = .event → (clock s).fe = (after .selectEvent s).fe) ∧
    (arbiter s = .capture → s.inp.capCtl = false → (clock s).fe = (after .selectData s).fe) ∧
    (arbiter s = .capture → s.inp.capCtl = true → (clock s).fe = (after .selectControl s).fe) ∧
    (∀ (i : Instr) (r : Record), recordOf i = some r → selectedRecord s = some r → (clock s).fe = (after i s).fe) ∧
    (s.inp.evWrite = false → elAck s = false → (clock s).el = s.el) ∧
    (s.fe.state = .idle → arbiter s = .none → (clock s).fe = s.fe) ∧
    (recFire s = true → (clock s).fe = { s.fe with state := .idle }) ∧
    (s.fe.state ≠ .idle → recFire s = false → serFire s = false → (clock s).fe = s.fe)) ∧
  ∀ s : State, s.inp.rst = false → s.cfg.feVariant = .parallel →
    (s.rpg.state = .idle → s.inp.resyncStart = true → (clock s).rpg = (after .start s).rpg) ∧
    (s.rpg.state = .idle → s.inp.resyncStart = false ∨ s.cfg.resyncRepeat = 0 → (clock s).rpg = s.rpg) ∧
    (s.rpg.state = .pattern → rpgFire s = false → (clock s).rpg = s.rpg) ∧
    (rpgValid s = true → muxSel s = true →
      (clock s).rpg = (after .rsy s).rpg ∧ (clock s).muxSelQ = (after .rsy s).muxSelQ ∧
      (wcoFire s = false → (clock s).wc = (after .rsy s).wc) ∧
      (wcoFire s = true → (clock s).wc = (after .push (after .rsy s)).wc)) ∧
    (wcoFire s = true →
      (clock s).wc.outValid = (after .push s).wc.outValid ∧ (clock s).wc.outWord = (after .push s).wc.outWord ∧
      (wciValid s = false → (clock s).wc = (after .push s).wc)) ∧
    (wciValid s = false → wcoFire s = false → (clock s).wc = s.wc) ∧
    (wcoValid s = true → bbrFire s = false → (clock s).bb = (after .push s).bb) ∧
    (wcoValid s = false → bbrFire s = true → (clock s).bb = (after .pop s).bb) ∧
    (wcoValid s = true → bbrFire s = true → (clock s).bb = (after .pop (after .push s)).bb) ∧
    (wcoValid s = false → bbrFire s = false → (clock s).bb = s.bb) ∧
    (bbrFire s = true →
      (clock s).tf = { (after .pop s).tf with
        timer := if s.tf.level = 0 ∨ s.cfg.timerRestartOnWord = true then 0 else s.tf.timer + 1
        clock := s.tf.clock + 1 }) ∧
    (s.tf.state = .fill → tfTrigger s.cfg s.tf = true →
      (clock s).tf = { (after .flush s).tf with clock := s.tf.clock + 1 }) ∧
    (s.tf.state = .fill → tfTrigger s.cfg s.tf = false → bbrFire s = false →
      (clock s).tf = { s.tf with
        timer := if s.tf.level = 0 then 0 else s.tf.timer + 1
        clock := s.tf.clock + 1 }) ∧
    (s.tf.state ≠ .fill → hostFire s = false → (clock s).tf = { s.tf with clock := s.tf.clock + 1 }) ∧
    (hostFire s = true → s.tf.state = .sendLength →
      (clock s).tf = { (after (.frameLength (hostData s)) s).tf with clock := s.tf.clock + 1 }) ∧
    (hostFire s = true → s.tf.state = .sendTimestamp →
      (clock s).tf = { (after (.frameTimestamp (hostData s)) s).tf with clock := s.tf.clock + 1 }) ∧
    (hostFire s = true → s.tf.state = .sendBody →
      (clock s).tf = { (after (.framePayload (hostData s)) s).tf with clock := s.tf.clock + 1 })
end

