-- ==== Sys2Proof/Laws/Invariant.lean ====
section
/-! SUPPORT. The invariant from its two halves, each small enough to be decided. -/

namespace Sys2Proof.Machine

/-- The invariant from what it says of the capture side and of the transport side. -/
theorem inv_intro {s : State}
    (h : configLegal s.cfg = true ∧ Memory.wf s = true ∧ taInv s ∧ variantInv s ∧ recordInv s ∧ shiftInv s)
    (k : rpgInv s ∧ carryInv s ∧ midRecordInv s ∧ framerInv s) : Inv s :=
  ⟨h.1, h.2.1, h.2.2.1, h.2.2.2.1, h.2.2.2.2.1, h.2.2.2.2.2, k.1, k.2.1, k.2.2.1, k.2.2.2⟩

end Sys2Proof.Machine
end

