-- ==== Sys2Proof/Laws/State.lean ====
section
/-! SUPPORT. One lemma per field for every update of the whole state, so that no later proof unfolds a record update. -/

namespace Sys2Proof.Machine

/-! ### Emptying the issue slot -/

@[simp] theorem clearIssue_cfg (s : State) : (clearIssue s).cfg = s.cfg := rfl
@[simp] theorem clearIssue_ta (s : State) : (clearIssue s).ta = s.ta := rfl
@[simp] theorem clearIssue_el (s : State) : (clearIssue s).el = s.el := rfl
@[simp] theorem clearIssue_fe (s : State) : (clearIssue s).fe = s.fe := rfl
@[simp] theorem clearIssue_rpg (s : State) : (clearIssue s).rpg = s.rpg := rfl
@[simp] theorem clearIssue_muxSelQ (s : State) : (clearIssue s).muxSelQ = s.muxSelQ := rfl
@[simp] theorem clearIssue_wc (s : State) : (clearIssue s).wc = s.wc := rfl
@[simp] theorem clearIssue_bb (s : State) : (clearIssue s).bb = s.bb := rfl
@[simp] theorem clearIssue_tf (s : State) : (clearIssue s).tf = s.tf := rfl
@[simp] theorem clearIssue_inp (s : State) : (clearIssue s).inp = s.inp := rfl
@[simp] theorem clearIssue_stim (s : State) : (clearIssue s).stim = s.stim := rfl
@[simp] theorem clearIssue_issue (s : State) : (clearIssue s).issue = none := rfl

/-! ### Placing an encoding in the issue slot -/

@[simp] theorem placeIssue_cfg (s : State) (p : Issue) : (placeIssue s p).cfg = s.cfg := rfl
@[simp] theorem placeIssue_ta (s : State) (p : Issue) : (placeIssue s p).ta = s.ta := rfl
@[simp] theorem placeIssue_el (s : State) (p : Issue) : (placeIssue s p).el = s.el := rfl
@[simp] theorem placeIssue_fe (s : State) (p : Issue) : (placeIssue s p).fe = s.fe := rfl
@[simp] theorem placeIssue_rpg (s : State) (p : Issue) : (placeIssue s p).rpg = s.rpg := rfl
@[simp] theorem placeIssue_muxSelQ (s : State) (p : Issue) : (placeIssue s p).muxSelQ = s.muxSelQ := rfl
@[simp] theorem placeIssue_wc (s : State) (p : Issue) : (placeIssue s p).wc = s.wc := rfl
@[simp] theorem placeIssue_bb (s : State) (p : Issue) : (placeIssue s p).bb = s.bb := rfl
@[simp] theorem placeIssue_tf (s : State) (p : Issue) : (placeIssue s p).tf = s.tf := rfl
@[simp] theorem placeIssue_inp (s : State) (p : Issue) : (placeIssue s p).inp = s.inp := rfl
@[simp] theorem placeIssue_stim (s : State) (p : Issue) : (placeIssue s p).stim = s.stim := rfl
@[simp] theorem placeIssue_issue (s : State) (p : Issue) : (placeIssue s p).issue = some p := rfl

/-! ### A table word in the issue slot -/

@[simp] theorem withFetchWord_cfg (s : State) (nbits w : Nat) : (s.withFetchWord nbits w).cfg = s.cfg := rfl
@[simp] theorem withFetchWord_ta (s : State) (nbits w : Nat) : (s.withFetchWord nbits w).ta = s.ta := rfl
@[simp] theorem withFetchWord_el (s : State) (nbits w : Nat) : (s.withFetchWord nbits w).el = s.el := rfl
@[simp] theorem withFetchWord_fe (s : State) (nbits w : Nat) : (s.withFetchWord nbits w).fe = s.fe := rfl
@[simp] theorem withFetchWord_rpg (s : State) (nbits w : Nat) : (s.withFetchWord nbits w).rpg = s.rpg := rfl
@[simp] theorem withFetchWord_muxSelQ (s : State) (nbits w : Nat) : (s.withFetchWord nbits w).muxSelQ = s.muxSelQ := rfl
@[simp] theorem withFetchWord_wc (s : State) (nbits w : Nat) : (s.withFetchWord nbits w).wc = s.wc := rfl
@[simp] theorem withFetchWord_bb (s : State) (nbits w : Nat) : (s.withFetchWord nbits w).bb = s.bb := rfl
@[simp] theorem withFetchWord_tf (s : State) (nbits w : Nat) : (s.withFetchWord nbits w).tf = s.tf := rfl
@[simp] theorem withFetchWord_inp (s : State) (nbits w : Nat) : (s.withFetchWord nbits w).inp = s.inp := rfl
@[simp] theorem withFetchWord_stim (s : State) (nbits w : Nat) : (s.withFetchWord nbits w).stim = s.stim := rfl
@[simp] theorem withFetchWord_issue (s : State) (nbits w : Nat) : (s.withFetchWord nbits w).issue = some (tableIssue nbits w) := rfl

/-! ### The capture side of a cycle -/

@[simp] theorem captureCycle_cfg (s t : State) : (captureCycle s t).cfg = t.cfg := rfl
@[simp] theorem captureCycle_ta (s t : State) : (captureCycle s t).ta = taNext s.cfg (taConsume s) (taClear s) s.ta := rfl
@[simp] theorem captureCycle_el (s t : State) : (captureCycle s t).el = elNext s.inp.evWrite s.inp.evCode (elAck s) s.el := rfl
@[simp] theorem captureCycle_fe (s t : State) : (captureCycle s t).fe = feNext s.cfg (selectedRecord s) s.inp.serReady (recReady s) s.fe := rfl
@[simp] theorem captureCycle_rpg (s t : State) : (captureCycle s t).rpg = t.rpg := rfl
@[simp] theorem captureCycle_muxSelQ (s t : State) : (captureCycle s t).muxSelQ = t.muxSelQ := rfl
@[simp] theorem captureCycle_wc (s t : State) : (captureCycle s t).wc = t.wc := rfl
@[simp] theorem captureCycle_bb (s t : State) : (captureCycle s t).bb = t.bb := rfl
@[simp] theorem captureCycle_tf (s t : State) : (captureCycle s t).tf = t.tf := rfl
@[simp] theorem captureCycle_inp (s t : State) : (captureCycle s t).inp = t.inp := rfl
@[simp] theorem captureCycle_stim (s t : State) : (captureCycle s t).stim = t.stim := rfl
@[simp] theorem captureCycle_issue (s t : State) : (captureCycle s t).issue = t.issue := rfl

/-! ### The transport side of a cycle -/

@[simp] theorem transportCycle_cfg (s t : State) : (transportCycle s t).cfg = t.cfg := rfl
@[simp] theorem transportCycle_ta (s t : State) : (transportCycle s t).ta = t.ta := rfl
@[simp] theorem transportCycle_el (s t : State) : (transportCycle s t).el = t.el := rfl
@[simp] theorem transportCycle_fe (s t : State) : (transportCycle s t).fe = t.fe := rfl
@[simp] theorem transportCycle_rpg (s t : State) : (transportCycle s t).rpg = rpgNext s.cfg s.inp.resyncStart (rpgFire s) s.rpg := rfl
@[simp] theorem transportCycle_muxSelQ (s t : State) : (transportCycle s t).muxSelQ = muxSel s := rfl
@[simp] theorem transportCycle_wc (s t : State) : (transportCycle s t).wc = wcNext (wciValid s) (wciSlot s) (wciLencode s) (wcoFire s) s.wc := rfl
@[simp] theorem transportCycle_bb (s t : State) : (transportCycle s t).bb = bbNext (bbrFire s) (wcoValid s) (wcoReady s) (wcoWord s) s.bb := rfl
@[simp] theorem transportCycle_tf (s t : State) : (transportCycle s t).tf = tfNext s.cfg (bbrFire s) (bbrWord s) (hostFire s) s.tf := rfl
@[simp] theorem transportCycle_inp (s t : State) : (transportCycle s t).inp = t.inp := rfl
@[simp] theorem transportCycle_stim (s t : State) : (transportCycle s t).stim = t.stim := rfl
@[simp] theorem transportCycle_issue (s t : State) : (transportCycle s t).issue = t.issue := rfl

/-! ### Reset -/

@[simp] theorem resetRegisters_cfg (s : State) : (resetRegisters s).cfg = s.cfg := rfl
@[simp] theorem resetRegisters_ta (s : State) : (resetRegisters s).ta = (State.resetWith s.cfg).ta := rfl
@[simp] theorem resetRegisters_el (s : State) : (resetRegisters s).el = (State.resetWith s.cfg).el := rfl
@[simp] theorem resetRegisters_fe (s : State) : (resetRegisters s).fe = (State.resetWith s.cfg).fe := rfl
@[simp] theorem resetRegisters_rpg (s : State) : (resetRegisters s).rpg = (State.resetWith s.cfg).rpg := rfl
@[simp] theorem resetRegisters_muxSelQ (s : State) : (resetRegisters s).muxSelQ = (State.resetWith s.cfg).muxSelQ := rfl
@[simp] theorem resetRegisters_wc (s : State) : (resetRegisters s).wc = (State.resetWith s.cfg).wc := rfl
@[simp] theorem resetRegisters_bb (s : State) : (resetRegisters s).bb = (State.resetWith s.cfg).bb := rfl
@[simp] theorem resetRegisters_tf (s : State) : (resetRegisters s).tf = (State.resetWith s.cfg).tf := rfl
@[simp] theorem resetRegisters_inp (s : State) : (resetRegisters s).inp = s.inp := rfl
@[simp] theorem resetRegisters_stim (s : State) : (resetRegisters s).stim = s.stim := rfl
@[simp] theorem resetRegisters_issue (s : State) : (resetRegisters s).issue = s.issue := rfl

/-! ### The ports of the next cycle -/

@[simp] theorem advanceInputs_cfg (s : State) : (advanceInputs s).cfg = s.cfg := by
  unfold advanceInputs; split <;> rfl
@[simp] theorem advanceInputs_ta (s : State) : (advanceInputs s).ta = s.ta := by
  unfold advanceInputs; split <;> rfl
@[simp] theorem advanceInputs_el (s : State) : (advanceInputs s).el = s.el := by
  unfold advanceInputs; split <;> rfl
@[simp] theorem advanceInputs_fe (s : State) : (advanceInputs s).fe = s.fe := by
  unfold advanceInputs; split <;> rfl
@[simp] theorem advanceInputs_rpg (s : State) : (advanceInputs s).rpg = s.rpg := by
  unfold advanceInputs; split <;> rfl
@[simp] theorem advanceInputs_muxSelQ (s : State) : (advanceInputs s).muxSelQ = s.muxSelQ := by
  unfold advanceInputs; split <;> rfl
@[simp] theorem advanceInputs_wc (s : State) : (advanceInputs s).wc = s.wc := by
  unfold advanceInputs; split <;> rfl
@[simp] theorem advanceInputs_bb (s : State) : (advanceInputs s).bb = s.bb := by
  unfold advanceInputs; split <;> rfl
@[simp] theorem advanceInputs_tf (s : State) : (advanceInputs s).tf = s.tf := by
  unfold advanceInputs; split <;> rfl
@[simp] theorem advanceInputs_inp (s : State) : (advanceInputs s).inp = s.stim.headD Inputs.idle := by
  unfold advanceInputs; split <;> simp_all
@[simp] theorem advanceInputs_stim (s : State) : (advanceInputs s).stim = s.stim.tail := by
  unfold advanceInputs; split <;> simp_all
@[simp] theorem advanceInputs_issue (s : State) : (advanceInputs s).issue = s.issue := by
  unfold advanceInputs; split <;> rfl

/-! ### The registers after a cycle -/

@[simp] theorem cycleRegisters_cfg (s : State) : (cycleRegisters s).cfg = s.cfg := by
  unfold cycleRegisters; split <;> rfl
@[simp] theorem cycleRegisters_inp (s : State) : (cycleRegisters s).inp = s.inp := by
  unfold cycleRegisters; split <;> rfl
@[simp] theorem cycleRegisters_stim (s : State) : (cycleRegisters s).stim = s.stim := by
  unfold cycleRegisters; split <;> rfl
@[simp] theorem cycleRegisters_issue (s : State) : (cycleRegisters s).issue = s.issue := by
  unfold cycleRegisters; split <;> rfl
@[simp] theorem cycleRegisters_ta (s : State) : (cycleRegisters s).ta = (captureCycle s s).ta := by
  unfold cycleRegisters; split <;> rfl
@[simp] theorem cycleRegisters_el (s : State) : (cycleRegisters s).el = (captureCycle s s).el := by
  unfold cycleRegisters; split <;> rfl
@[simp] theorem cycleRegisters_fe (s : State) : (cycleRegisters s).fe = (captureCycle s s).fe := by
  unfold cycleRegisters; split <;> rfl
theorem cycleRegisters_rpg (s : State) :
    (cycleRegisters s).rpg = if pipelineBuilt s then (transportCycle s s).rpg else s.rpg := by
  unfold cycleRegisters; split <;> rfl
theorem cycleRegisters_muxSelQ (s : State) :
    (cycleRegisters s).muxSelQ = if pipelineBuilt s then (transportCycle s s).muxSelQ else s.muxSelQ := by
  unfold cycleRegisters; split <;> rfl
theorem cycleRegisters_wc (s : State) :
    (cycleRegisters s).wc = if pipelineBuilt s then (transportCycle s s).wc else s.wc := by
  unfold cycleRegisters; split <;> rfl
theorem cycleRegisters_bb (s : State) :
    (cycleRegisters s).bb = if pipelineBuilt s then (transportCycle s s).bb else s.bb := by
  unfold cycleRegisters; split <;> rfl
theorem cycleRegisters_tf (s : State) :
    (cycleRegisters s).tf = if pipelineBuilt s then (transportCycle s s).tf else s.tf := by
  unfold cycleRegisters; split <;> rfl

/-! ### A clock cycle -/

@[simp] theorem clock_cfg (s : State) : (clock s).cfg = s.cfg := by
  unfold clock; split <;> simp
@[simp] theorem clock_issue (s : State) : (clock s).issue = s.issue := by
  unfold clock; split <;> simp
@[simp] theorem clock_inp (s : State) : (clock s).inp = s.stim.headD Inputs.idle := by
  unfold clock; split <;> simp
@[simp] theorem clock_stim (s : State) : (clock s).stim = s.stim.tail := by
  unfold clock; split <;> simp
theorem clock_ta (s : State) (h : s.inp.rst = false) : (clock s).ta = (captureCycle s s).ta := by
  simp [clock, h]
theorem clock_el (s : State) (h : s.inp.rst = false) : (clock s).el = (captureCycle s s).el := by
  simp [clock, h]
theorem clock_fe (s : State) (h : s.inp.rst = false) : (clock s).fe = (captureCycle s s).fe := by
  simp [clock, h]
theorem clock_rpg (s : State) (h : s.inp.rst = false) (hv : s.cfg.feVariant = .parallel) :
    (clock s).rpg = (transportCycle s s).rpg := by
  simp [clock, h, cycleRegisters_rpg, pipelineBuilt, hv]
theorem clock_muxSelQ (s : State) (h : s.inp.rst = false) (hv : s.cfg.feVariant = .parallel) :
    (clock s).muxSelQ = (transportCycle s s).muxSelQ := by
  simp [clock, h, cycleRegisters_muxSelQ, pipelineBuilt, hv]
theorem clock_wc (s : State) (h : s.inp.rst = false) (hv : s.cfg.feVariant = .parallel) :
    (clock s).wc = (transportCycle s s).wc := by
  simp [clock, h, cycleRegisters_wc, pipelineBuilt, hv]
theorem clock_bb (s : State) (h : s.inp.rst = false) (hv : s.cfg.feVariant = .parallel) :
    (clock s).bb = (transportCycle s s).bb := by
  simp [clock, h, cycleRegisters_bb, pipelineBuilt, hv]
theorem clock_tf (s : State) (h : s.inp.rst = false) (hv : s.cfg.feVariant = .parallel) :
    (clock s).tf = (transportCycle s s).tf := by
  simp [clock, h, cycleRegisters_tf, pipelineBuilt, hv]
theorem clock_rpg_serial (s : State) (h : s.inp.rst = false) (hv : s.cfg.feVariant = .serial) :
    (clock s).rpg = s.rpg := by
  simp [clock, h, cycleRegisters_rpg, pipelineBuilt, hv]
theorem clock_muxSelQ_serial (s : State) (h : s.inp.rst = false) (hv : s.cfg.feVariant = .serial) :
    (clock s).muxSelQ = s.muxSelQ := by
  simp [clock, h, cycleRegisters_muxSelQ, pipelineBuilt, hv]
theorem clock_wc_serial (s : State) (h : s.inp.rst = false) (hv : s.cfg.feVariant = .serial) :
    (clock s).wc = s.wc := by
  simp [clock, h, cycleRegisters_wc, pipelineBuilt, hv]
theorem clock_bb_serial (s : State) (h : s.inp.rst = false) (hv : s.cfg.feVariant = .serial) :
    (clock s).bb = s.bb := by
  simp [clock, h, cycleRegisters_bb, pipelineBuilt, hv]
theorem clock_tf_serial (s : State) (h : s.inp.rst = false) (hv : s.cfg.feVariant = .serial) :
    (clock s).tf = s.tf := by
  simp [clock, h, cycleRegisters_tf, pipelineBuilt, hv]

end Sys2Proof.Machine
end

