-- ==== Sys2Proof/Laws/Ops.lean ====
section
/-! SUPPORT. For each shared operation of Machine/Ops.lean one lemma that says everything it can do; the proofs cite these
instead of unfolding the operations. -/

namespace Sys2Proof.Machine

/-! ### Outcomes and edges -/

/-- Two next states are the same outcome exactly if they are the same state. -/
theorem next_inj {s t : State} :
    (Host.Outcome.next s : Host.Outcome State Fault Refusal) = .next t ↔ s = t :=
  ⟨fun h => by cases h; rfl, fun h => by rw [h]⟩

/-- Without reset an operation's edge takes its effect. -/
theorem onEdge_run {s : State} (h : s.inp.rst = false) (t : State) : onEdge s t = .next t := by simp [onEdge, h]

/-- With reset an operation's edge takes the reset. -/
theorem onEdge_reset {s : State} (h : s.inp.rst = true) (t : State) : onEdge s t = .next (resetRegisters s) := by
  simp [onEdge, h]

/-- With the parallel variant a stage after FramingEncoder takes its effect. -/
theorem onPipeline_parallel {s : State} (h : s.cfg.feVariant = .parallel) (t : State) : onPipeline s t = t := by
  simp [onPipeline, pipelineBuilt, h]

/-- With the serial variant no stage after FramingEncoder does anything. -/
theorem onPipeline_serial {s : State} (h : s.cfg.feVariant = .serial) (t : State) : onPipeline s t = s := by
  simp [onPipeline, pipelineBuilt, h]

/-! ### TimeAccumulator -/

theorem taNext_consume (c : Config) (clear : Bool) (ta : TimeAccumulator) :
    taNext c true clear ta = { count := 0, overflow := false } := rfl

theorem taNext_clear (c : Config) (ta : TimeAccumulator) :
    taNext c false true ta = { count := if c.clearResetsCount then 0 else ta.count, overflow := false } := rfl

/-- A cycle with neither strobe: hold, saturate or count. -/
theorem taNext_tick (c : Config) (ta : TimeAccumulator) :
    (ta.overflow = true ∧ taNext c false false ta = ta) ∨
    (ta.overflow = false ∧ ta.count = taMax ∧ taNext c false false ta = { ta with overflow := true }) ∨
    (ta.overflow = false ∧ ta.count ≠ taMax ∧ taNext c false false ta = { ta with count := ta.count + 1 }) := by
  by_cases h : ta.overflow = true
  · simp [taNext, h]
  · by_cases k : ta.count = taMax <;> simp_all [taNext]

/-! ### EventLatch -/

theorem elNext_write (code : Byte) (ack : Bool) (el : EventLatch) :
    elNext true code ack el = { code := code, new := true } := rfl

theorem elNext_ack (code : Byte) (el : EventLatch) : elNext false code true el = { el with new := false } := rfl

theorem elNext_hold (code : Byte) (el : EventLatch) : elNext false code false el = el := rfl

/-! ### FramingEncoder -/

theorem feLoad_serial {c : Config} (h : c.feVariant = .serial) (r : Record) (fe : FramingEncoder) :
    feLoad c r fe =
      { typ := r.typ, delta := r.delta, len := r.len, payload := r.payload, state := .header,
        shift := r.delta.extractLsb' 4 24, rem := r.len } := by simp [feLoad, h]

theorem feLoad_parallel {c : Config} (h : c.feVariant = .parallel) (r : Record) (fe : FramingEncoder) :
    feLoad c r fe =
      { fe with typ := r.typ, delta := r.delta, len := r.len, payload := r.payload, state := .emit } := by
  simp [feLoad, h]

/-- In `IDLE` FramingEncoder loads what the arbiter selects, or holds. -/
theorem feNext_idle {fe : FramingEncoder} (h : fe.state = .idle) (c : Config) (sel : Option Record) (sr rr : Bool) :
    feNext c sel sr rr fe = (sel.map fun r => feLoad c r fe).getD fe := by
  cases sel <;> simp [feNext, h]

/-- In a sending state of the serial variant an accepted byte advances it. -/
theorem feNext_serial {fe : FramingEncoder} (h : fe.state = .header ∨ fe.state = .timestamp ∨ fe.state = .payload)
    (c : Config) (sel : Option Record) (sr rr : Bool) :
    feNext c sel sr rr fe = if sr then feSerialAdvance fe else fe := by
  rcases h with h | h | h <;> simp [feNext, h]

/-- In `EMIT` an accepted record leads back to `IDLE`. -/
theorem feNext_emit {fe : FramingEncoder} (h : fe.state = .emit) (c : Config) (sel : Option Record) (sr rr : Bool) :
    feNext c sel sr rr fe = if rr then { fe with state := .idle } else fe := by simp [feNext, h]

/-- No state of FramingEncoder changes the snapshot registers but `IDLE`. -/
theorem feRecord_feNext {fe : FramingEncoder} (h : fe.state ≠ .idle) (c : Config) (sel : Option Record) (sr rr : Bool) :
    feRecord (feNext c sel sr rr fe) = feRecord fe := by
  unfold feNext feSerialAdvance feRecord
  cases hs : fe.state <;> simp_all <;> (repeat' split) <;> simp_all

/-! ### ResyncPatternGenerator -/

/-- Everything the generator can do in a cycle: begin a burst, end it, count down, or hold. -/
theorem rpgNext_cases (c : Config) (start fire : Bool) (rpg : ResyncGenerator) :
    (rpg.state = .idle ∧ start = true ∧ c.resyncRepeat ≠ 0 ∧
      rpgNext c start fire rpg = { state := .pattern, repeats := c.resyncRepeat }) ∨
    (rpg.state = .idle ∧ (start = false ∨ c.resyncRepeat = 0) ∧ rpgNext c start fire rpg = rpg) ∨
    (rpg.state = .pattern ∧ fire = true ∧ rpg.repeats = 1 ∧
      rpgNext c start fire rpg = { state := .idle, repeats := 0 }) ∨
    (rpg.state = .pattern ∧ fire = true ∧ rpg.repeats ≠ 1 ∧
      rpgNext c start fire rpg = { state := .pattern, repeats := rpg.repeats - 1 }) ∨
    (rpg.state = .pattern ∧ fire = false ∧ rpgNext c start fire rpg = rpg) := by
  obtain ⟨st, n⟩ := rpg
  cases st
  · by_cases h : c.resyncRepeat = 0#8 <;> cases start <;> simp [rpgNext, h]
  · by_cases h : n = 1#8 <;> cases fire <;> simp [rpgNext, h]

/-! ### WidthConverter -/

/-- The bytes on hand when a record of length code `l` is presented. -/
def wcOnHand (slot : Slot) (l : BitVec 2) (wc : WidthConverter) : List Byte :=
  unpack wc.carry wc.remain.toNat ++ unpack slot (recordLength l)

/-- Everything the input side can do: fill the carry, load a word, begin a record of eight bytes on hand, finish it, or wait
for the holding register. -/
theorem wcTake_cases (slot : Slot) (l : BitVec 2) (wc : WidthConverter) :
    (wc.state = .normal ∧ wc.remain.toNat + recordLength l < 4 ∧
      wcTake slot l wc = { wc with
        carry := pack 24 (wcOnHand slot l wc), remain := BitVec.ofNat 2 (wc.remain.toNat + recordLength l) }) ∨
    (wc.state = .normal ∧ 4 ≤ wc.remain.toNat + recordLength l ∧ wc.remain.toNat + recordLength l < 8 ∧
      wc.outValid = false ∧
      wcTake slot l wc = { wc with
        outWord := pack 32 ((wcOnHand slot l wc).take 4)
        outValid := true
        carry := pack 24 ((wcOnHand slot l wc).drop 4)
        remain := BitVec.ofNat 2 (wc.remain.toNat + recordLength l - 4) }) ∨
    (wc.state = .normal ∧ 8 ≤ wc.remain.toNat + recordLength l ∧ wc.outValid = false ∧
      wcTake slot l wc = { wc with
        outWord := pack 32 ((wcOnHand slot l wc).take 4)
        outValid := true
        carry := 0
        remain := 0
        state := .sendExtra }) ∨
    (wc.state = .sendExtra ∧ wc.outValid = false ∧
      wcTake slot l wc = { wc with
        outWord := pack 32 ((unpack slot (recordLength l)).drop 1), outValid := true, state := .normal }) ∨
    (wc.outValid = true ∧ (wc.state = .sendExtra ∨ 4 ≤ wc.remain.toNat + recordLength l) ∧ wcTake slot l wc = wc) := by
  obtain ⟨carry, remain, st, ow, ov⟩ := wc
  cases st
  · by_cases h : remain.toNat + recordLength l < 4
    · simp [wcTake, wcOnHand, h]
    · by_cases k : remain.toNat + recordLength l < 8 <;> cases ov <;> simp [wcTake, wcOnHand, h, k] <;> omega
  · cases ov <;> simp [wcTake]

/-- The input side is ready exactly when it then uses up the record (R183). -/
theorem wcReady_iff (l : BitVec 2) (wc : WidthConverter) :
    wcReady l wc = true ↔
      (wc.state = .normal ∧ wc.remain.toNat + recordLength l < 4) ∨
      (wc.state = .normal ∧ wc.remain.toNat + recordLength l < 8 ∧ wc.outValid = false) ∨
      (wc.state = .sendExtra ∧ wc.outValid = false) := by
  obtain ⟨carry, remain, st, ow, ov⟩ := wc
  cases st
  · by_cases h : remain.toNat + recordLength l < 4
    · simp [wcReady, h]
    · by_cases k : remain.toNat + recordLength l < 8 <;> cases ov <;> simp [wcReady, h, k]
  · cases ov <;> simp [wcReady]

@[simp] theorem wcDrain_true (wc : WidthConverter) : wcDrain true wc = { wc with outValid := false } := rfl

@[simp] theorem wcDrain_false (wc : WidthConverter) : wcDrain false wc = wc := rfl

/-! ### BurstBuffer -/

/-- The queue after a cycle: the head leaves, an accepted word joins. -/
theorem bbNext_queue (pop valid ready : Bool) (w : Word) (bb : BurstBuffer) :
    (bbNext pop valid ready w bb).queue =
      (if pop then bb.queue.tail else bb.queue) ++ (if valid && ready then [w] else []) := by
  cases pop <;> cases valid <;> cases ready <;> simp [bbNext, bbPop, bbPush, bbRefuse]

/-- The counter after a cycle: a refused cycle is counted. -/
theorem bbNext_refused (pop valid ready : Bool) (w : Word) (bb : BurstBuffer) :
    (bbNext pop valid ready w bb).refused =
      if valid && !ready then saturatingIncrement bb.refused else bb.refused := by
  cases pop <;> cases valid <;> cases ready <;> simp [bbNext, bbPop, bbPush, bbRefuse]

/-- The saturating counter as a number. -/
theorem saturatingIncrement_toNat (n : BitVec 32) :
    (saturatingIncrement n).toNat = min (n.toNat + 1) (2 ^ 32 - 1) := by
  unfold saturatingIncrement
  split
  · next h => subst h; rfl
  · next h =>
    have h1 : n.toNat ≠ 4294967295 := fun e => h (BitVec.eq_of_toNat_eq e)
    have h2 := n.isLt
    rw [BitVec.toNat_add]
    change (n.toNat + 1) % 2 ^ 32 = _
    omega

/-! ### TransportFramer -/

/-- Everything the framer can do in a cycle but for the free-running counter. -/
theorem tfPhase_cases (c : Config) (wf : Bool) (w : Word) (hf : Bool) (tf : TransportFramer) :
    (tf.state = .fill ∧ tfTrigger c tf = true ∧ tfPhase c wf w hf tf = tfFlush tf) ∨
    (tf.state = .fill ∧ tfTrigger c tf = false ∧ wf = true ∧ tfPhase c wf w hf tf = tfAccept w (tfTimer c true tf)) ∨
    (tf.state = .fill ∧ tfTrigger c tf = false ∧ wf = false ∧ tfPhase c wf w hf tf = tfTimer c false tf) ∨
    (tf.state ≠ .fill ∧ hf = true ∧ tfPhase c wf w hf tf = tfSent tf) ∨
    (tf.state ≠ .fill ∧ hf = false ∧ tfPhase c wf w hf tf = tf) := by
  cases hs : tf.state <;> cases ht : tfTrigger c tf <;> cases wf <;> cases hf <;> simp [tfPhase, hs, ht]

/-- Everything an accepted host word can do. -/
theorem tfSent_cases (tf : TransportFramer) :
    (tf.state = .fill ∧ tfSent tf = tf) ∨
    (tf.state = .sendLength ∧ tfSent tf = { tf with state := .sendTimestamp }) ∨
    (tf.state = .sendTimestamp ∧ tfSent tf = { tf with state := .sendBody }) ∨
    (tf.state = .sendBody ∧ tf.rdIdx + 1 = tf.level ∧
      tfSent tf = { tf with state := .fill, level := 0, timer := 0, rdIdx := 0 }) ∨
    (tf.state = .sendBody ∧ tf.rdIdx + 1 ≠ tf.level ∧ tfSent tf = { tf with rdIdx := tf.rdIdx + 1 }) := by
  cases hs : tf.state
  · simp [tfSent, hs]
  · simp [tfSent, hs]
  · simp [tfSent, hs]
  · by_cases h : tf.rdIdx + 1 = tf.level <;> simp [tfSent, tfLastWord, hs, h]

/-- Everything the idle timer can do; it is the only field it writes. -/
theorem tfTimer_cases (c : Config) (fire : Bool) (tf : TransportFramer) :
    (tf.level = 0 ∧ tfTimer c fire tf = { tf with timer := 0 }) ∨
    (tf.level ≠ 0 ∧ c.timerRestartOnWord = true ∧ fire = true ∧ tfTimer c fire tf = { tf with timer := 0 }) ∨
    (tf.level ≠ 0 ∧ (c.timerRestartOnWord = false ∨ fire = false) ∧
      tfTimer c fire tf = { tf with timer := tf.timer + 1 }) := by
  by_cases h : tf.level = 0 <;> cases hr : c.timerRestartOnWord <;> cases fire <;> simp [tfTimer, h, hr]

@[simp] theorem tfTick_state (tf : TransportFramer) : (tfTick tf).state = tf.state := rfl
@[simp] theorem tfTick_acc (tf : TransportFramer) : (tfTick tf).acc = tf.acc := rfl
@[simp] theorem tfTick_level (tf : TransportFramer) : (tfTick tf).level = tf.level := rfl
@[simp] theorem tfTick_rdIdx (tf : TransportFramer) : (tfTick tf).rdIdx = tf.rdIdx := rfl
@[simp] theorem tfTick_timer (tf : TransportFramer) : (tfTick tf).timer = tf.timer := rfl
@[simp] theorem tfTick_clock (tf : TransportFramer) : (tfTick tf).clock = tf.clock + 1 := rfl
@[simp] theorem tfTick_lenLatch (tf : TransportFramer) : (tfTick tf).lenLatch = tf.lenLatch := rfl
@[simp] theorem tfTick_tsLatch (tf : TransportFramer) : (tfTick tf).tsLatch = tf.tsLatch := rfl

/-! ### Operations over the whole state -/

/-- What the arbiter's outcome means for the record it creates. -/
theorem selectedRecord_cases (s : State) :
    (arbiter s = .overflow ∧ selectedRecord s = some ⟨.overflow, taMax, 3, 0⟩) ∨
    (arbiter s = .event ∧ selectedRecord s = some ⟨.event, s.ta.count, encodedLength s.ta.count, s.el.code⟩) ∨
    (arbiter s = .capture ∧ s.inp.capCtl = true ∧
      selectedRecord s = some ⟨.control, s.ta.count, encodedLength s.ta.count, s.inp.capData⟩) ∨
    (arbiter s = .capture ∧ s.inp.capCtl = false ∧
      selectedRecord s = some ⟨.data, s.ta.count, encodedLength s.ta.count, s.inp.capData⟩) ∨
    (arbiter s = .none ∧ selectedRecord s = none) := by
  cases h : arbiter s <;> cases hc : s.inp.capCtl <;> simp [selectedRecord, h, hc]

/-- When the arbiter has which outcome (R151). -/
theorem arbiter_cases (s : State) :
    (s.fe.state ≠ .idle ∧ arbiter s = .none) ∨
    (s.fe.state = .idle ∧ s.ta.overflow = true ∧ arbiter s = .overflow) ∨
    (s.fe.state = .idle ∧ s.ta.overflow = false ∧ s.el.new = true ∧ arbiter s = .event) ∨
    (s.fe.state = .idle ∧ s.ta.overflow = false ∧ s.el.new = false ∧ s.inp.capValid = true ∧ arbiter s = .capture) ∨
    (s.fe.state = .idle ∧ s.ta.overflow = false ∧ s.el.new = false ∧ s.inp.capValid = false ∧ arbiter s = .none) := by
  by_cases h : s.fe.state = .idle <;> cases h1 : s.ta.overflow <;> cases h2 : s.el.new <;> cases h3 : s.inp.capValid <;>
    simp [arbiter, h, h1, h2, h3]

/-- A selection either finds no record and changes nothing, or loads the record and follows the two strobes. -/
theorem select_cases (s : State) :
    (selectedRecord s = none ∧ select s = s) ∨
    (∃ r : Record, selectedRecord s = some r ∧
      select s = { s with
        fe := feLoad s.cfg r s.fe
        ta := if taConsume s then { count := 0, overflow := false } else s.ta
        el := if elAck s then elNext s.inp.evWrite s.inp.evCode true s.el else s.el }) := by
  cases h : selectedRecord s with
  | none => exact .inl ⟨rfl, by simp [select, h]⟩
  | some r => exact .inr ⟨r, rfl, by simp [select, h, taNext_consume]⟩

theorem selectIf_cases (b : Bool) (s : State) :
    (b = true ∧ selectIf b s = select s) ∨ (b = false ∧ selectIf b s = s) := by
  cases b <;> simp [selectIf]

theorem selectRecord_cases (r : Record) (s : State) :
    (selectedRecord s = some r ∧ selectRecord r s = select s) ∨
    (selectedRecord s ≠ some r ∧ selectRecord r s = s) := by
  by_cases h : selectedRecord s = some r <;> simp [selectRecord, h]

/-- One cycle of the generator at the multiplexer: presented and seen by WidthConverter, or nothing. -/
theorem presentLiteral_cases (s : State) :
    (muxSel s = true ∧ rpgValid s = true ∧
      presentLiteral s = { s with
        rpg := rpgNext s.cfg false (rpgFire s) s.rpg
        muxSelQ := true
        wc := wcTake s.cfg.resyncPattern (rpgLencode s) s.wc }) ∨
    ((muxSel s = false ∨ rpgValid s = false) ∧ presentLiteral s = s) := by
  cases h : muxSel s <;> cases k : rpgValid s <;> simp [presentLiteral, h, k, rpgSlot]

/-- One cycle of the write port: nothing presented, a word accepted, or a word refused. -/
theorem writePort_cases (s : State) :
    (s.wc.outValid = false ∧ writePort s = s) ∨
    (s.wc.outValid = true ∧ bbFull s = false ∧
      writePort s = { s with
        bb := { s.bb with queue := s.bb.queue ++ [s.wc.outWord] }
        wc := { s.wc with outValid := false } }) ∨
    (s.wc.outValid = true ∧ bbFull s = true ∧
      writePort s = { s with bb := { s.bb with refused := saturatingIncrement s.bb.refused } }) := by
  cases h : s.wc.outValid <;> cases k : bbFull s <;>
    simp [writePort, bbNext, bbPush, bbRefuse, wcoValid, wcoFire, wcoReady, wcoWord, h, k]

/-- One cycle of the read port: the head moves into the accumulator, or nothing. -/
theorem readPort_cases (s : State) :
    (bbrFire s = true ∧
      readPort s = { s with
        bb := { s.bb with queue := s.bb.queue.tail }
        tf := { s.tf with
          acc := s.tf.acc.set s.tf.level (bbrWord s)
          level := s.tf.level + 1
          timer := timerOnWord s.cfg s.tf } }) ∨
    (bbrFire s = false ∧ readPort s = s) := by
  cases h : bbrFire s <;> simp [readPort, h, bbPop, tfAccept]

/-- The flush: due, or nothing. -/
theorem flushIfDue_cases (s : State) :
    (s.tf.state = .fill ∧ tfTrigger s.cfg s.tf = true ∧ flushIfDue s = { s with tf := tfFlush s.tf }) ∨
    (¬(s.tf.state = .fill ∧ tfTrigger s.cfg s.tf = true) ∧ flushIfDue s = s) := by
  by_cases h : s.tf.state = .fill ∧ tfTrigger s.cfg s.tf = true
  · exact .inl ⟨h.1, h.2, by rw [flushIfDue, if_pos h]⟩
  · exact .inr ⟨h, by rw [flushIfDue, if_neg h]⟩

/-- A host word: transferred, or nothing. -/
theorem hostTransfer_cases (st : TfState) (w : Word) (s : State) :
    (s.tf.state = st ∧ hostFire s = true ∧ hostData s = w ∧ hostTransfer st w s = { s with tf := tfSent s.tf }) ∨
    (¬(s.tf.state = st ∧ hostFire s = true ∧ hostData s = w) ∧ hostTransfer st w s = s) := by
  by_cases h : s.tf.state = st ∧ hostFire s = true ∧ hostData s = w
  · exact .inl ⟨h.1, h.2.1, h.2.2, by simp [hostTransfer, h]⟩
  · exact .inr ⟨h, by rw [hostTransfer, if_neg h]⟩

end Sys2Proof.Machine
end

