-- ==== Sys2Proof/Laws/Packing.lean ====
section
/-! SUPPORT. The packing of R16: byte lists and numbers, back and forth. -/

namespace Sys2Proof

@[simp] theorem length_unpackNat (n v : Nat) : (unpackNat n v).length = n := by
  induction n generalizing v with
  | zero => rfl
  | succ n ih => simp [unpackNat, ih]

@[simp] theorem length_unpack {w : Nat} (v : BitVec w) (n : Nat) : (unpack v n).length = n := length_unpackNat n _

/-- A packed list is below the power of its length. -/
theorem packNat_lt (bs : List Byte) : packNat bs < 256 ^ bs.length := by
  induction bs with
  | nil => simp [packNat]
  | cons b bs ih =>
    have hb := b.isLt
    simp only [packNat, List.length_cons, Nat.pow_succ]
    omega

/-- Packing what was unpacked gives the low bytes. -/
theorem packNat_unpackNat (n v : Nat) : packNat (unpackNat n v) = v % 256 ^ n := by
  induction n generalizing v with
  | zero => simp [unpackNat, packNat, Nat.mod_one]
  | succ n ih =>
    simp only [unpackNat, packNat, ih, BitVec.toNat_ofNat]
    rw [show 256 ^ (n + 1) = 256 * 256 ^ n by ring, Nat.mod_mul]

/-- Unpacking what was packed gives the bytes back. -/
theorem unpackNat_packNat (bs : List Byte) : unpackNat bs.length (packNat bs) = bs := by
  induction bs with
  | nil => rfl
  | cons b bs ih =>
    have hb := b.isLt
    have h1 : BitVec.ofNat 8 (b.toNat + 256 * packNat bs) = b := by
      apply BitVec.eq_of_toNat_eq
      rw [BitVec.toNat_ofNat]
      omega
    have h2 : (b.toNat + 256 * packNat bs) / 256 = packNat bs := by omega
    simp only [List.length_cons, unpackNat, packNat, h1, h2, ih]

/-- Packing two lists one after the other. -/
theorem packNat_append (xs ys : List Byte) : packNat (xs ++ ys) = packNat xs + 256 ^ xs.length * packNat ys := by
  induction xs with
  | nil => simp [packNat]
  | cons x xs ih =>
    simp only [List.cons_append, packNat, ih, List.length_cons, Nat.pow_succ]
    ring

/-- Unpacking in two parts. -/
theorem unpackNat_add (m n v : Nat) : unpackNat (m + n) v = unpackNat m v ++ unpackNat n (v / 256 ^ m) := by
  induction m generalizing v with
  | zero => simp [unpackNat]
  | succ m ih =>
    rw [show m + 1 + n = (m + n) + 1 by omega]
    simp only [unpackNat, ih, List.cons_append, Nat.pow_succ]
    rw [Nat.div_div_eq_div_mul, Nat.mul_comm 256]

/-- A byte list of a width's size survives packing into the width. -/
theorem unpack_pack (w : Nat) (bs : List Byte) (h : 256 ^ bs.length ≤ 2 ^ w) : unpack (pack w bs) bs.length = bs := by
  have hb := packNat_lt bs
  rw [unpack, pack, BitVec.toNat_ofNat, Nat.mod_eq_of_lt (lt_of_lt_of_le hb h), unpackNat_packNat]

end Sys2Proof
end

