-- ==== Sys2Proof/Laws/PerInstr.lean ====
section
/-! SUPPORT. Facts about the instructions as syntax, one lemma per constructor. -/

namespace Sys2Proof.Laws

/-- The number of bytes of each row of the table (R94, R106, R110, R114). -/
def encodedSize : Instr → Nat
  | .ovf _ => 4
  | .evtT0 _ _ => 2
  | .evtT1 _ _ => 3
  | .evtT2 _ _ => 4
  | .evtT3 _ _ => 5
  | .datT0 _ _ => 2
  | .datT1 _ _ => 3
  | .datT2 _ _ => 4
  | .datT3 _ _ => 5
  | .ctlT0 _ _ => 2
  | .ctlT1 _ _ => 3
  | .ctlT2 _ _ => 4
  | .ctlT3 _ _ => 5
  | .rsy => 3
  | .frameLength _ => 4
  | .frameTimestamp _ => 4
  | .framePayload _ => 4
  | .tick => 1
  | .consume => 1
  | .clearOverflow => 1
  | .write => 1
  | .ack => 1
  | .selectOverflow => 1
  | .selectEvent => 1
  | .selectData => 1
  | .selectControl => 1
  | .start => 1
  | .push => 1
  | .pop => 1
  | .flush => 1
  | .reset => 1

/-- The encoder gives each row as many bytes as the table says. -/
def EncodedSize.Statement (i : Instr) : Prop := (encode i).bytes.length = encodedSize i

theorem EncodedSize.ovf (ts : BitVec 24) : EncodedSize.Statement (.ovf ts) := rfl
theorem EncodedSize.evtT0 (delta : BitVec 4) (code : Byte) : EncodedSize.Statement (.evtT0 delta code) := rfl
theorem EncodedSize.evtT1 (delta : BitVec 12) (code : Byte) : EncodedSize.Statement (.evtT1 delta code) := rfl
theorem EncodedSize.evtT2 (delta : BitVec 20) (code : Byte) : EncodedSize.Statement (.evtT2 delta code) := rfl
theorem EncodedSize.evtT3 (delta : BitVec 28) (code : Byte) : EncodedSize.Statement (.evtT3 delta code) := rfl
theorem EncodedSize.datT0 (delta : BitVec 4) (byte : Byte) : EncodedSize.Statement (.datT0 delta byte) := rfl
theorem EncodedSize.datT1 (delta : BitVec 12) (byte : Byte) : EncodedSize.Statement (.datT1 delta byte) := rfl
theorem EncodedSize.datT2 (delta : BitVec 20) (byte : Byte) : EncodedSize.Statement (.datT2 delta byte) := rfl
theorem EncodedSize.datT3 (delta : BitVec 28) (byte : Byte) : EncodedSize.Statement (.datT3 delta byte) := rfl
theorem EncodedSize.ctlT0 (delta : BitVec 4) (byte : Byte) : EncodedSize.Statement (.ctlT0 delta byte) := rfl
theorem EncodedSize.ctlT1 (delta : BitVec 12) (byte : Byte) : EncodedSize.Statement (.ctlT1 delta byte) := rfl
theorem EncodedSize.ctlT2 (delta : BitVec 20) (byte : Byte) : EncodedSize.Statement (.ctlT2 delta byte) := rfl
theorem EncodedSize.ctlT3 (delta : BitVec 28) (byte : Byte) : EncodedSize.Statement (.ctlT3 delta byte) := rfl
theorem EncodedSize.rsy : EncodedSize.Statement (.rsy) := rfl
theorem EncodedSize.frameLength (length : Word) : EncodedSize.Statement (.frameLength length) := rfl
theorem EncodedSize.frameTimestamp (timestamp : Word) : EncodedSize.Statement (.frameTimestamp timestamp) := rfl
theorem EncodedSize.framePayload (word : Word) : EncodedSize.Statement (.framePayload word) := rfl
theorem EncodedSize.tick : EncodedSize.Statement (.tick) := rfl
theorem EncodedSize.consume : EncodedSize.Statement (.consume) := rfl
theorem EncodedSize.clearOverflow : EncodedSize.Statement (.clearOverflow) := rfl
theorem EncodedSize.write : EncodedSize.Statement (.write) := rfl
theorem EncodedSize.ack : EncodedSize.Statement (.ack) := rfl
theorem EncodedSize.selectOverflow : EncodedSize.Statement (.selectOverflow) := rfl
theorem EncodedSize.selectEvent : EncodedSize.Statement (.selectEvent) := rfl
theorem EncodedSize.selectData : EncodedSize.Statement (.selectData) := rfl
theorem EncodedSize.selectControl : EncodedSize.Statement (.selectControl) := rfl
theorem EncodedSize.start : EncodedSize.Statement (.start) := rfl
theorem EncodedSize.push : EncodedSize.Statement (.push) := rfl
theorem EncodedSize.pop : EncodedSize.Statement (.pop) := rfl
theorem EncodedSize.flush : EncodedSize.Statement (.flush) := rfl
theorem EncodedSize.reset : EncodedSize.Statement (.reset) := rfl

end Sys2Proof.Laws
end

