-- ==== Sys2Proof/Laws/Storage.lean ====
section
/-! SUPPORT. The storage (queue and frame accumulator) keeps its form under every operation on it, and what a read of it gives
after a write. -/

namespace Sys2Proof.Machine

/-- The form of the storage as a proposition. -/
theorem memory_wf_iff (s : State) :
    Memory.wf s = true ↔
      s.bb.queue.length ≤ s.cfg.bbDepth ∧ s.tf.acc.length = s.cfg.tfCapacity ∧ s.tf.level ≤ s.cfg.tfCapacity := by
  simp [Memory.wf, and_assoc]

/-- A legal configuration's frame depth fits its accumulator (R267). -/
theorem configLegal_depth {c : Config} (h : configLegal c = true) : c.depth ≤ c.tfCapacity := by
  simp only [configLegal, Bool.and_eq_true, decide_eq_true_eq] at h
  omega

/-- Without a trigger the batch is not full (R232). -/
theorem level_lt_of_no_trigger {c : Config} {tf : TransportFramer} (h : tfTrigger c tf = false) : tf.level < c.depth := by
  simp only [tfTrigger, Bool.or_eq_false_iff, decide_eq_false_iff_not, not_le] at h
  exact h.1

/-- A word is accepted only while filling and with no trigger (R233). -/
theorem bbrReady_spec {s : State} (h : bbrReady s = true) : s.tf.state = .fill ∧ tfTrigger s.cfg s.tf = false := by
  simpa [bbrReady] using h

/-- The reset state's storage has its form. -/
theorem reset_memory_wf : Memory.wf State.reset = true := by decide

/-- The storage of every reset state has its form. -/
theorem resetWith_memory_wf (c : Config) : Memory.wf (State.resetWith c) = true := by
  simp [memory_wf_iff, State.resetWith]

/-- Reset keeps the storage's form. -/
theorem resetRegisters_memory_wf (s : State) : Memory.wf (resetRegisters s) = true := by
  simp [memory_wf_iff, State.resetWith]

/-- The write port keeps the storage's form. -/
theorem writePort_memory_wf {s : State} (h : Memory.wf s = true) : Memory.wf (writePort s) = true := by
  rw [memory_wf_iff] at *
  rcases writePort_cases s with ⟨-, e⟩ | ⟨-, k, e⟩ | ⟨-, -, e⟩
  · rw [e]; exact h
  · simp only [bbFull, decide_eq_false_iff_not, not_le] at k
    rw [e]
    exact ⟨by simp; omega, h.2⟩
  · rw [e]; exact h

/-- The read port keeps the storage's form. -/
theorem readPort_memory_wf {s : State} (hc : configLegal s.cfg = true) (h : Memory.wf s = true) :
    Memory.wf (readPort s) = true := by
  rw [memory_wf_iff] at *
  rcases readPort_cases s with ⟨k, e⟩ | ⟨-, e⟩
  · simp only [bbrFire, Bool.and_eq_true] at k
    have h1 := level_lt_of_no_trigger (bbrReady_spec k.2).2
    have h2 := configLegal_depth hc
    rw [e]
    refine ⟨?_, ?_, ?_⟩
    · simp; omega
    · simpa using h.2.1
    · simp; omega
  · rw [e]; exact h

/-- The flush does not touch the words. -/
theorem flushIfDue_memory_wf {s : State} (h : Memory.wf s = true) : Memory.wf (flushIfDue s) = true := by
  rw [memory_wf_iff] at *
  rcases flushIfDue_cases s with ⟨-, -, e⟩ | ⟨-, e⟩ <;> rw [e] <;> exact h

/-- Sending a host word keeps the storage's form. -/
theorem hostTransfer_memory_wf {s : State} (st : TfState) (w : Word) (h : Memory.wf s = true) :
    Memory.wf (hostTransfer st w s) = true := by
  rw [memory_wf_iff] at *
  rcases hostTransfer_cases st w s with ⟨-, -, -, e⟩ | ⟨-, e⟩
  · rcases tfSent_cases s.tf with ⟨-, f⟩ | ⟨-, f⟩ | ⟨-, f⟩ | ⟨-, -, f⟩ | ⟨-, -, f⟩ <;> rw [e, f]
    · exact h
    · exact h
    · exact h
    · exact ⟨h.1, h.2.1, Nat.zero_le _⟩
    · exact h
  · rw [e]; exact h

/-- A presented literal does not touch the storage. -/
theorem presentLiteral_memory_wf {s : State} (h : Memory.wf s = true) : Memory.wf (presentLiteral s) = true := by
  rw [memory_wf_iff] at *
  rcases presentLiteral_cases s with ⟨-, -, e⟩ | ⟨-, e⟩ <;> rw [e] <;> exact h

/-- A selection does not touch the storage. -/
theorem select_memory_wf {s : State} (h : Memory.wf s = true) : Memory.wf (select s) = true := by
  rw [memory_wf_iff] at *
  rcases select_cases s with ⟨-, e⟩ | ⟨_, -, e⟩ <;> rw [e] <;> exact h

/-- The queue after a cycle fits its capacity if it did before (R219). -/
theorem bbNext_length (pop valid : Bool) (w : Word) (bb : BurstBuffer) (n : Nat) (h : bb.queue.length ≤ n) :
    (bbNext pop valid (decide (bb.queue.length < n)) w bb).queue.length ≤ n := by
  rw [bbNext_queue]
  by_cases k : bb.queue.length < n <;> cases pop <;> cases valid <;> simp [k] <;> omega

/-- The framer's cycle keeps the size of the accumulator. -/
theorem tfNext_acc_length (c : Config) (wf : Bool) (w : Word) (hf : Bool) (tf : TransportFramer) :
    (tfNext c wf w hf tf).acc.length = tf.acc.length := by
  unfold tfNext
  rw [tfTick_acc]
  rcases tfPhase_cases c wf w hf tf with ⟨-, -, e⟩ | ⟨-, -, -, e⟩ | ⟨-, -, -, e⟩ | ⟨-, -, e⟩ | ⟨-, -, e⟩ <;> rw [e]
  · rfl
  · rcases tfTimer_cases c true tf with ⟨-, f⟩ | ⟨-, -, -, f⟩ | ⟨-, -, f⟩ <;> rw [f] <;> simp [tfAccept]
  · rcases tfTimer_cases c false tf with ⟨-, f⟩ | ⟨-, -, -, f⟩ | ⟨-, -, f⟩ <;> rw [f]
  · rcases tfSent_cases tf with ⟨-, f⟩ | ⟨-, f⟩ | ⟨-, f⟩ | ⟨-, -, f⟩ | ⟨-, -, f⟩ <;> rw [f]

/-- Reading the accumulator where a word was just accepted gives that word. -/
theorem accRead_tfAccept (w : Word) (tf : TransportFramer) (h : tf.level < tf.acc.length) :
    (tfAccept w tf).acc[tf.level]? = some w := by
  simp [tfAccept, h]

/-- Accepting a word changes no other entry of the accumulator. -/
theorem accRead_tfAccept_ne (w : Word) (tf : TransportFramer) (k : Nat) (h : k ≠ tf.level) :
    (tfAccept w tf).acc[k]? = tf.acc[k]? := by
  simp [tfAccept, Ne.symm h]

end Sys2Proof.Machine
end

