-- ==== Sys2Proof/Tests/Slice0.lean ====
section
/-! SUPPORT. The model's own tests: ill-formed terms refused, one word per row of the opcode table written out from its
encoding and decoded, small one-step checks with results worked out from the rules, and for every obligation with hypotheses
a state and operands that meet them. -/

namespace Sys2Proof.Tests

open Sys2Proof Sys2Proof.Machine

/-- The next state of an outcome. -/
def nextOf : Host.Outcome State Fault Refusal → Option State
  | .next s => some s
  | .fault _ => none
  | .refused _ => none

/-! ### WellFormed: each check refuses an ill-formed term and admits its boundary -/

theorem test_wf_ovf : (Instr.ovf 0xFFFFFE).wellFormed = false ∧ (Instr.ovf 0xFFFFFF).wellFormed = true := by decide
theorem test_wf_evtT1 : (Instr.evtT1 15 0).wellFormed = false ∧ (Instr.evtT1 16 0).wellFormed = true := by decide
theorem test_wf_evtT2 : (Instr.evtT2 4095 0).wellFormed = false ∧ (Instr.evtT2 4096 0).wellFormed = true := by decide
theorem test_wf_evtT3 : (Instr.evtT3 1048575 0).wellFormed = false ∧ (Instr.evtT3 1048576 0).wellFormed = true := by
  decide
theorem test_wf_datT1 : (Instr.datT1 15 0).wellFormed = false ∧ (Instr.datT1 16 0).wellFormed = true := by decide
theorem test_wf_datT2 : (Instr.datT2 4095 0).wellFormed = false ∧ (Instr.datT2 4096 0).wellFormed = true := by decide
theorem test_wf_datT3 : (Instr.datT3 1048575 0).wellFormed = false ∧ (Instr.datT3 1048576 0).wellFormed = true := by
  decide
theorem test_wf_ctlT1 : (Instr.ctlT1 15 0).wellFormed = false ∧ (Instr.ctlT1 16 0).wellFormed = true := by decide
theorem test_wf_ctlT2 : (Instr.ctlT2 4095 0).wellFormed = false ∧ (Instr.ctlT2 4096 0).wellFormed = true := by decide
theorem test_wf_ctlT3 : (Instr.ctlT3 1048575 0).wellFormed = false ∧ (Instr.ctlT3 1048576 0).wellFormed = true := by
  decide
theorem test_wf_frameLength :
    (Instr.frameLength 8).wellFormed = false ∧ (Instr.frameLength 14).wellFormed = false ∧
    (Instr.frameLength 12).wellFormed = true := by decide

/-! ### Decode: one word per row, its bits from the table and R91, R92, R106, R110 -/

-- spec/95_test_vectors.md 2.2
theorem test_decode_ovf : decode ⟨.stream, [0x3F, 0xFF, 0xFF, 0xFF]⟩ = .instr (.ovf 0xFFFFFF) [] := by decide
-- type 01, timeLen 00, low nibble 5
theorem test_decode_evtT0 : decode ⟨.stream, [0x45, 0x11]⟩ = .instr (.evtT0 5 0x11) [] := by decide
-- 0x012: low nibble 2, ts0 = 0x01
theorem test_decode_evtT1 : decode ⟨.stream, [0x52, 0x01, 0x22]⟩ = .instr (.evtT1 0x012 0x22) [] := by decide
-- spec/95_test_vectors.md 2.2
theorem test_decode_evtT2 : decode ⟨.stream, [0x64, 0x23, 0x01, 0x07]⟩ = .instr (.evtT2 0x01234 0x07) [] := by decide
-- 0x1234567: low nibble 7, ts = 56 34 12
theorem test_decode_evtT3 :
    decode ⟨.stream, [0x77, 0x56, 0x34, 0x12, 0x33]⟩ = .instr (.evtT3 0x1234567 0x33) [] := by decide
theorem test_decode_datT0 : decode ⟨.stream, [0x80, 0xA5]⟩ = .instr (.datT0 0 0xA5) [] := by decide
theorem test_decode_datT1 : decode ⟨.stream, [0x9E, 0xFF, 0x5A]⟩ = .instr (.datT1 0xFFE 0x5A) [] := by decide
-- 0xABCDE: low nibble E, ts = CD AB
theorem test_decode_datT2 : decode ⟨.stream, [0xAE, 0xCD, 0xAB, 0x01]⟩ = .instr (.datT2 0xABCDE 0x01) [] := by decide
-- spec/95_test_vectors.md 2.2
theorem test_decode_datT3 :
    decode ⟨.stream, [0xB1, 0xCD, 0xAB, 0x02, 0x99]⟩ = .instr (.datT3 0x2ABCD1 0x99) [] := by decide
theorem test_decode_ctlT0 : decode ⟨.stream, [0xCF, 0x2D]⟩ = .instr (.ctlT0 15 0x2D) [] := by decide
-- spec/95_test_vectors.md 2.2
theorem test_decode_ctlT1 : decode ⟨.stream, [0xD0, 0x01, 0x2D]⟩ = .instr (.ctlT1 0x010 0x2D) [] := by decide
-- 0x01000: low nibble 0, ts = 00 01
theorem test_decode_ctlT2 : decode ⟨.stream, [0xE0, 0x00, 0x01, 0xA1]⟩ = .instr (.ctlT2 0x01000 0xA1) [] := by decide
-- 0x0100000: low nibble 0, ts = 00 00 01
theorem test_decode_ctlT3 :
    decode ⟨.stream, [0xF0, 0x00, 0x00, 0x01, 0x55]⟩ = .instr (.ctlT3 0x0100000 0x55) [] := by decide
-- R106, R69
theorem test_decode_rsy : decode ⟨.stream, [0x50, 0x00, 0xE0]⟩ = .instr .rsy [] := by decide
-- eight words: 8 + 4 * 8 = 0x28, low byte first
theorem test_decode_frameLength :
    decode ⟨.host .length, [0x28, 0x00, 0x00, 0x00]⟩ = .instr (.frameLength 0x28) [] := by decide
theorem test_decode_frameTimestamp :
    decode ⟨.host .timestamp, [0x78, 0x56, 0x34, 0x12]⟩ = .instr (.frameTimestamp 0x12345678) [] := by decide
theorem test_decode_framePayload :
    decode ⟨.host .payload, [0x3F, 0xFF, 0xFF, 0xFF]⟩ = .instr (.framePayload 0xFFFFFF3F) [] := by decide
-- the strobes: match 1, mask 1 on a line each (R114, R115)
theorem test_decode_tick : decode ⟨.line .tick, [1]⟩ = .instr .tick [] := by decide
theorem test_decode_consume : decode ⟨.line .consume, [1]⟩ = .instr .consume [] := by decide
theorem test_decode_clearOverflow : decode ⟨.line .clearOverflow, [1]⟩ = .instr .clearOverflow [] := by decide
theorem test_decode_write : decode ⟨.line .write, [1]⟩ = .instr .write [] := by decide
theorem test_decode_ack : decode ⟨.line .ack, [1]⟩ = .instr .ack [] := by decide
theorem test_decode_selectOverflow : decode ⟨.line .selectOverflow, [1]⟩ = .instr .selectOverflow [] := by decide
theorem test_decode_selectEvent : decode ⟨.line .selectEvent, [1]⟩ = .instr .selectEvent [] := by decide
theorem test_decode_selectData : decode ⟨.line .selectData, [1]⟩ = .instr .selectData [] := by decide
theorem test_decode_selectControl : decode ⟨.line .selectControl, [1]⟩ = .instr .selectControl [] := by decide
theorem test_decode_start : decode ⟨.line .start, [1]⟩ = .instr .start [] := by decide
theorem test_decode_push : decode ⟨.line .push, [1]⟩ = .instr .push [] := by decide
theorem test_decode_pop : decode ⟨.line .pop, [1]⟩ = .instr .pop [] := by decide
theorem test_decode_flush : decode ⟨.line .flush, [1]⟩ = .instr .flush [] := by decide
theorem test_decode_reset : decode ⟨.line .reset, [1]⟩ = .instr .reset [] := by decide

/-- What is rejected, by name: a header never produced (R104), a short record (R103), a low strobe line, no byte. -/
theorem test_decode_rejects :
    decode ⟨.stream, [0x3E, 0, 0, 0]⟩ = .rejected (.neverProducedHeader 0x3E) ∧
    decode ⟨.stream, [0x64, 0x23, 0x01]⟩ = .rejected .truncated ∧
    decode ⟨.host .length, [0x28, 0, 0]⟩ = .rejected .truncated ∧
    decode ⟨.line .push, [0xFE]⟩ = .rejected .strobeLow ∧
    decode ⟨.stream, []⟩ = .rejected .empty := by decide

/-- Table words: the first byte is in the lowest bits, and the bits above are 0. -/
theorem test_tableWord :
    decodeTableWord 8 0x45 = some (.evtT0 5 0) ∧ decodeTableWord 24 0xE00050 = some .rsy ∧
    decodeTableWord 32 0x28 = some (.frameLength 0x28) ∧ decodeTableWord 8 0x1 = some .tick := by decide

/-! ### Small states -/

/-- The reset state with other TimeAccumulator and EventLatch registers and ports. -/
def capState (ta : TimeAccumulator) (el : EventLatch) (inp : Inputs) : State :=
  { State.reset with ta := ta, el := el, inp := inp }

/-- The reset state of the serial variant with a record in flight. -/
def serState (fe : FramingEncoder) : State :=
  { State.resetWith { Config.default with feVariant := .serial } with fe := fe }

/-- The reset state with a generator and a WidthConverter. -/
def rpgState (rpg : ResyncGenerator) (wc : WidthConverter) : State := { State.reset with rpg := rpg, wc := wc }

/-- The reset state with a WidthConverter and a queue. -/
def bbState (valid : Bool) (q : List Word) (refused : BitVec 32) : State :=
  { State.reset with
    wc := { State.reset.wc with outWord := 0x44332211, outValid := valid }
    bb := { queue := q, refused := refused } }

/-- The reset state with a framer of `level` words 0xA0, 0xA1, … -/
def tfState (state : TfState) (level rdIdx : Nat) (host : Bool) : State :=
  { State.reset with
    tf := { State.reset.tf with
      acc := [0xA0, 0xA1, 0xA2, 0xA3, 0xA4, 0xA5, 0xA6, 0xA7, 0xA8, 0, 0, 0, 0, 0, 0, 0]
      level := level, rdIdx := rdIdx, state := state, clock := 0x64, lenLatch := frameLengthOf level, tsLatch := 0x60 }
    inp := { Inputs.idle with hostReady := host } }

/-- Ports with a capture byte offered. -/
def capInputs (ctl : Bool) : Inputs := { Inputs.idle with capValid := true, capData := 0x99, capCtl := ctl }

/-- Ports with an event written. -/
def evInputs : Inputs := { Inputs.idle with evWrite := true, evCode := 0x42 }

/-- Ports in reset. -/
def rstInputs : Inputs := { Inputs.idle with rst := true }

/-! ### One step of each instruction -/

-- R123, R124
theorem test_tick_counts :
    (nextOf (exec .tick State.reset)).map (·.ta) = some { count := 1, overflow := false } := by decide
theorem test_tick_saturates :
    (nextOf (exec .tick (capState ⟨taMax, false⟩ ⟨0, false⟩ .idle))).map (·.ta) =
      some { count := taMax, overflow := true } := by decide
-- R125, R126
theorem test_consume :
    (nextOf (exec .consume (capState ⟨taMax, true⟩ ⟨0, false⟩ .idle))).map (·.ta) =
      some { count := 0, overflow := false } := by decide
-- R127 under both settings
theorem test_clearOverflow_resets :
    (nextOf (exec .clearOverflow (capState ⟨taMax, true⟩ ⟨0, false⟩ .idle))).map (·.ta) =
      some { count := 0, overflow := false } := by decide
theorem test_clearOverflow_keeps :
    (nextOf (exec .clearOverflow { capState ⟨taMax, true⟩ ⟨0, false⟩ .idle with
      cfg := { Config.default with clearResetsCount := false } })).map (·.ta) =
      some { count := taMax, overflow := false } := by decide
-- R141, R142
theorem test_write_overwrites :
    (nextOf (exec .write (capState ⟨0, false⟩ ⟨7, true⟩ evInputs))).map (·.el) =
      some { code := 0x42, new := true } := by decide
-- R143
theorem test_ack_clears :
    (nextOf (exec .ack (capState ⟨0, false⟩ ⟨7, true⟩ .idle))).map (·.el) = some { code := 7, new := false } := by decide
theorem test_ack_loses_to_write :
    (nextOf (exec .ack (capState ⟨0, false⟩ ⟨7, true⟩ evInputs))).map (·.el) =
      some { code := 0x42, new := true } := by decide
-- R152: nothing is consumed
theorem test_selectOverflow :
    (nextOf (exec .selectOverflow (capState ⟨taMax, true⟩ ⟨7, true⟩ .idle))).map
      (fun t => (feRecord t.fe, t.fe.state, t.ta.overflow, t.el.new)) =
      some (⟨.overflow, 0xFFFFFFF, 3, 0⟩, .emit, true, true) := by decide
theorem test_ovf :
    (nextOf (exec (.ovf 0xFFFFFF) (capState ⟨taMax, true⟩ ⟨7, true⟩ .idle))).map
      (fun t => (feRecord t.fe, t.fe.state, t.ta.overflow)) = some (⟨.overflow, 0xFFFFFFF, 3, 0⟩, .emit, true) := by
  decide
-- R153, R125, R143
theorem test_selectEvent :
    (nextOf (exec .selectEvent (capState ⟨0x01234, false⟩ ⟨7, true⟩ (capInputs false)))).map
      (fun t => (feRecord t.fe, t.ta.count, t.el.new)) = some (⟨.event, 0x01234, 2, 7⟩, 0, false) := by decide
-- R153 with the serial variant's shift register (R156)
theorem test_selectEvent_serial :
    (nextOf (exec .selectEvent { serState State.reset.fe with ta := ⟨0x01234, false⟩, el := ⟨7, true⟩ })).map
      (fun t => (t.fe.state, t.fe.shift, t.fe.rem)) = some (.header, 0x123, 2) := by decide
-- R154
theorem test_selectData :
    (nextOf (exec .selectData (capState ⟨15, false⟩ ⟨7, false⟩ (capInputs false)))).map
      (fun t => (feRecord t.fe, t.ta.count)) = some (⟨.data, 15, 0, 0x99⟩, 0) := by decide
theorem test_selectControl :
    (nextOf (exec .selectControl (capState ⟨16, false⟩ ⟨7, false⟩ (capInputs true)))).map
      (fun t => (feRecord t.fe, t.ta.count)) = some (⟨.control, 16, 1, 0x99⟩, 0) := by decide
theorem test_evtT0 :
    (nextOf (exec (.evtT0 5 7) (capState ⟨5, false⟩ ⟨7, true⟩ .idle))).map (fun t => (feRecord t.fe, t.el.new)) =
      some (⟨.event, 5, 0, 7⟩, false) := by decide
theorem test_evtT1 :
    (nextOf (exec (.evtT1 0xFFF 7) (capState ⟨0xFFF, false⟩ ⟨7, true⟩ .idle))).map (fun t => (feRecord t.fe, t.el.new)) =
      some (⟨.event, 0xFFF, 1, 7⟩, false) := by decide
theorem test_evtT2 :
    (nextOf (exec (.evtT2 0x1000 7) (capState ⟨0x1000, false⟩ ⟨7, true⟩ .idle))).map
      (fun t => (feRecord t.fe, t.el.new)) = some (⟨.event, 0x1000, 2, 7⟩, false) := by decide
theorem test_evtT3 :
    (nextOf (exec (.evtT3 0x100000 7) (capState ⟨0x100000, false⟩ ⟨7, true⟩ .idle))).map
      (fun t => (feRecord t.fe, t.el.new)) = some (⟨.event, 0x100000, 3, 7⟩, false) := by decide
theorem test_datT0 :
    (nextOf (exec (.datT0 5 0x99) (capState ⟨5, false⟩ ⟨7, false⟩ (capInputs false)))).map (feRecord ·.fe) =
      some ⟨.data, 5, 0, 0x99⟩ := by decide
theorem test_datT1 :
    (nextOf (exec (.datT1 16 0x99) (capState ⟨16, false⟩ ⟨7, false⟩ (capInputs false)))).map (feRecord ·.fe) =
      some ⟨.data, 16, 1, 0x99⟩ := by decide
theorem test_datT2 :
    (nextOf (exec (.datT2 0xFFFFF 0x99) (capState ⟨0xFFFFF, false⟩ ⟨7, false⟩ (capInputs false)))).map (feRecord ·.fe) =
      some ⟨.data, 0xFFFFF, 2, 0x99⟩ := by decide
theorem test_datT3 :
    (nextOf (exec (.datT3 0x2ABCD1 0x99) (capState ⟨0x2ABCD1, false⟩ ⟨7, false⟩ (capInputs false)))).map
      (feRecord ·.fe) = some ⟨.data, 0x2ABCD1, 3, 0x99⟩ := by decide
theorem test_ctlT0 :
    (nextOf (exec (.ctlT0 0 0x99) (capState ⟨0, false⟩ ⟨7, false⟩ (capInputs true)))).map (feRecord ·.fe) =
      some ⟨.control, 0, 0, 0x99⟩ := by decide
theorem test_ctlT1 :
    (nextOf (exec (.ctlT1 16 0x99) (capState ⟨16, false⟩ ⟨7, false⟩ (capInputs true)))).map (feRecord ·.fe) =
      some ⟨.control, 16, 1, 0x99⟩ := by decide
theorem test_ctlT2 :
    (nextOf (exec (.ctlT2 0x1000 0x99) (capState ⟨0x1000, false⟩ ⟨7, false⟩ (capInputs true)))).map (feRecord ·.fe) =
      some ⟨.control, 0x1000, 2, 0x99⟩ := by decide
theorem test_ctlT3 :
    (nextOf (exec (.ctlT3 taMax 0x99) (capState ⟨taMax, false⟩ ⟨7, false⟩ (capInputs true)))).map (feRecord ·.fe) =
      some ⟨.control, taMax, 3, 0x99⟩ := by decide
/-- A Control form does not take a byte offered as data. -/
theorem test_ctlT0_not_data :
    (nextOf (exec (.ctlT0 0 0x99) (capState ⟨0, false⟩ ⟨7, false⟩ (capInputs false)))).map (·.fe.state) =
      some .idle := by decide
-- R202, R204
theorem test_start :
    (nextOf (exec .start State.reset)).map (·.rpg) = some { state := .pattern, repeats := 4 } := by decide
theorem test_start_busy :
    (nextOf (exec .start (rpgState ⟨.pattern, 2⟩ State.reset.wc))).map (·.rpg) =
      some { state := .pattern, repeats := 2 } := by decide
-- R203, R184: three bytes to the carry
theorem test_rsy_carry :
    (nextOf (exec .rsy (rpgState ⟨.pattern, 4⟩ State.reset.wc))).map
      (fun t => (t.rpg.repeats, t.wc.carry, t.wc.remain, t.wc.outValid)) = some (3, 0xE00050, 3, false) := by decide
-- R203, R185: 50 00 E0 50 leave, 00 E0 stay; the last repetition ends the burst
theorem test_rsy_word :
    (nextOf (exec .rsy (rpgState ⟨.pattern, 1⟩
      { carry := 0xE00050, remain := 3, state := .normal, outWord := 0, outValid := false }))).map
      (fun t => (t.rpg.state, t.wc.outWord, t.wc.carry, t.wc.remain)) = some (.idle, 0x50E00050, 0xE000, 2) := by decide
-- R217, R182; R220
theorem test_push_accepted :
    (nextOf (exec .push (bbState true [1, 2, 3] 0))).map (fun t => (t.bb.queue, t.wc.outValid)) =
      some ([1, 2, 3, 0x44332211], false) := by decide
theorem test_push_refused :
    (nextOf (exec .push (bbState true [1, 2, 3, 4] 9))).map (fun t => (t.bb.queue, t.bb.refused, t.wc.outValid)) =
      some ([1, 2, 3, 4], 10, true) := by decide
-- R218, R234
theorem test_pop :
    (nextOf (exec .pop (bbState false [5, 6] 0))).map (fun t => (t.bb.queue, t.tf.acc.head?, t.tf.level)) =
      some ([6], some 5, 1) := by decide
-- R236, R240
theorem test_flush :
    (nextOf (exec .flush (tfState .fill 8 0 true))).map (fun t => (t.tf.lenLatch, t.tf.tsLatch, t.tf.state)) =
      some (0x28, 0x64, .sendLength) := by decide
theorem test_flush_not_due :
    (nextOf (exec .flush (tfState .fill 7 0 true))).map (·.tf.state) = some .fill := by decide
-- R241, R250
theorem test_frameLength :
    (nextOf (exec (.frameLength 0x10) (tfState .sendLength 2 0 true))).map (·.tf.state) = some .sendTimestamp := by decide
theorem test_frameLength_stalled :
    (nextOf (exec (.frameLength 0x10) (tfState .sendLength 2 0 false))).map (·.tf.state) = some .sendLength := by decide
-- R242
theorem test_frameTimestamp :
    (nextOf (exec (.frameTimestamp 0x60) (tfState .sendTimestamp 2 0 true))).map (·.tf.state) = some .sendBody := by decide
-- R243, R244
theorem test_framePayload_next :
    (nextOf (exec (.framePayload 0xA0) (tfState .sendBody 2 0 true))).map (fun t => (t.tf.state, t.tf.rdIdx)) =
      some (.sendBody, 1) := by decide
theorem test_framePayload_last :
    (nextOf (exec (.framePayload 0xA1) (tfState .sendBody 2 1 true))).map (fun t => (t.tf.state, t.tf.level)) =
      some (.fill, 0) := by decide
-- R280
theorem test_reset :
    (nextOf (exec .reset (tfState .sendBody 2 1 true))).map (fun t => (t.tf.state, t.tf.level, t.tf.clock)) =
      some (.fill, 0, 0) := by decide
-- R13: the step with nothing issued is a clock cycle
theorem test_step_clocks :
    (nextOf (step State.reset)).map (fun t => (t.ta.count, t.tf.clock)) = some (1, 1) := by decide
theorem test_step_runs_table_word :
    (nextOf (step (State.reset.withFetchWord 8 1))).map (fun t => (t.ta.count, t.tf.clock, t.issue)) =
      some (1, 0, none) := by decide

/-! ### Witnesses: for each obligation with hypotheses, states and operands that meet them, clause by clause -/

/-- No reset in this cycle, and the stages after FramingEncoder are built. -/
abbrev running (s : State) : Prop := s.inp.rst = false ∧ s.cfg.feVariant = .parallel

theorem test_witness_WellFormedInstructionsDecodeBack :
    (Instr.evtT1 16 0x22).wellFormed = true ∧ (Instr.frameLength 12).wellFormed = true := by decide

theorem test_witness_RecordEndsWhereItsHeaderSays :
    (Instr.datT3 1048576 0x99).wellFormed = true ∧
    recordOf (.datT3 1048576 0x99) = some ⟨.data, 1048576, 3, 0x99⟩ := by decide

theorem test_witness_RecordStreamParsesBack :
    ∀ i ∈ [Instr.ovf 0xFFFFFF, Instr.rsy, Instr.evtT0 0 7],
      i.wellFormed = true ∧ (encode i).port = .stream := by decide

theorem test_witness_NeverProducedHeadersRejected : (0x3E : Byte).toNat < 0x3F := by decide

theorem test_witness_OverflowRecordIsFixed :
    selectedRecord (capState ⟨taMax, true⟩ ⟨7, true⟩ .idle) = some ⟨.overflow, taMax, 3, 0⟩ ∧
    (⟨.overflow, taMax, 3, 0⟩ : Record).typ = .overflow := by decide

theorem test_witness_TimeLengthIsLeast :
    (15 : Delta).toNat < 2 ^ (4 + 8 * 0) ∧ (16 : Delta).toNat < 2 ^ (4 + 8 * 1) := by decide

theorem test_witness_CreatedRecordsHaveMinimalTime :
    (selectedRecord (capState ⟨15, false⟩ ⟨7, true⟩ .idle) = some ⟨.event, 15, 0, 7⟩ ∧
      (⟨.event, 15, 0, 7⟩ : Record).typ ≠ .overflow) ∧
    (selectedRecord (capState ⟨16, false⟩ ⟨7, true⟩ .idle) = some ⟨.event, 16, 1, 7⟩ ∧
      (⟨.event, 16, 1, 7⟩ : Record).len ≠ 0) := by decide

theorem test_witness_TickCountsSaturatesOrHolds :
    ((capState ⟨taMax, true⟩ ⟨0, false⟩ .idle).inp.rst = false ∧
      (capState ⟨taMax, true⟩ ⟨0, false⟩ .idle).ta.overflow = true) ∧
    ((capState ⟨taMax, false⟩ ⟨0, false⟩ .idle).inp.rst = false ∧
      (capState ⟨taMax, false⟩ ⟨0, false⟩ .idle).ta.overflow = false ∧
      (capState ⟨taMax, false⟩ ⟨0, false⟩ .idle).ta.count = taMax) ∧
    ((capState ⟨taMax - 1, false⟩ ⟨0, false⟩ .idle).inp.rst = false ∧
      (capState ⟨taMax - 1, false⟩ ⟨0, false⟩ .idle).ta.overflow = false ∧
      (capState ⟨taMax - 1, false⟩ ⟨0, false⟩ .idle).ta.count ≠ taMax) := by decide

theorem test_witness_ConsumeClearsCountAndFlag : (capState ⟨taMax, true⟩ ⟨0, false⟩ .idle).inp.rst = false := by decide

theorem test_witness_ClearOverflowClearsFlag :
    State.reset.inp.rst = false ∧ State.reset.cfg.clearResetsCount = true ∧
    (State.resetWith { Config.default with clearResetsCount := false }).inp.rst = false ∧
    (State.resetWith { Config.default with clearResetsCount := false }).cfg.clearResetsCount = false := by decide

/-- An Overflow record about to be transferred. -/
def overflowInFlight : State :=
  { State.reset with
    ta := { count := taMax, overflow := true }
    fe := { State.reset.fe with typ := .overflow, delta := taMax, len := 3, state := .emit } }

/-- An Overflow record that waits for a full holding register. -/
def stalledOverflow : State :=
  { overflowInFlight with wc := { State.reset.wc with outWord := 0x44332211, outValid := true } }

theorem test_witness_TimeAccumulatorFollowsItsPriorities :
    (∀ s ∈ [capState ⟨5, false⟩ ⟨7, true⟩ .idle, overflowInFlight, State.reset,
      capState ⟨taMax, false⟩ ⟨0, false⟩ .idle], s.inp.rst = false) ∧
    taConsume (capState ⟨5, false⟩ ⟨7, true⟩ .idle) = true ∧
    (taConsume overflowInFlight = false ∧ taClear overflowInFlight = true) ∧
    (taConsume stalledOverflow = false ∧ taClear stalledOverflow = false ∧ stalledOverflow.inp.rst = false ∧
      stalledOverflow.ta.overflow = true) ∧
    (taConsume (capState ⟨taMax, false⟩ ⟨0, false⟩ .idle) = false ∧
      taClear (capState ⟨taMax, false⟩ ⟨0, false⟩ .idle) = false ∧
      (capState ⟨taMax, false⟩ ⟨0, false⟩ .idle).ta.overflow = false) ∧
    (taConsume State.reset = false ∧ taClear State.reset = false ∧ State.reset.ta.overflow = false ∧
      State.reset.ta.count ≠ taMax) := by decide

theorem test_witness_CounterSaturatesExactly :
    always (fun i => !i.rst && !i.capValid && !i.evWrite) State.reset ∧ State.reset.fe.state = .idle ∧
    State.reset.el.new = false ∧ State.reset.ta = { count := 0, overflow := false } := by decide

theorem test_witness_ConsumeMeasuresElapsedCycles :
    noReset (capState ⟨5, false⟩ ⟨7, true⟩ .idle) ∧ taConsume (capState ⟨5, false⟩ ⟨7, true⟩ .idle) = true ∧
    ∀ k ∈ [1, 2, 3], taConsume (clockRun k (capState ⟨5, false⟩ ⟨7, true⟩ .idle)) = false ∧
      taClear (clockRun k (capState ⟨5, false⟩ ⟨7, true⟩ .idle)) = false := by decide

theorem test_witness_WriteStoresTheEvent : (capState ⟨0, false⟩ ⟨7, true⟩ evInputs).inp.rst = false := by decide

theorem test_witness_AckClearsUnlessWritten :
    (capState ⟨0, false⟩ ⟨7, true⟩ .idle).inp.rst = false ∧ (capState ⟨0, false⟩ ⟨7, true⟩ .idle).inp.evWrite = false ∧
    (capState ⟨0, false⟩ ⟨7, true⟩ evInputs).inp.rst = false ∧
    (capState ⟨0, false⟩ ⟨7, true⟩ evInputs).inp.evWrite = true := by decide

theorem test_witness_EventLatchFollowsItsPriorities :
    (evInputs.rst = false ∧ evInputs.evWrite = true) ∧
    ((capState ⟨0, false⟩ ⟨7, true⟩ .idle).inp.rst = false ∧ (capState ⟨0, false⟩ ⟨7, true⟩ .idle).inp.evWrite = false ∧
      elAck (capState ⟨0, false⟩ ⟨7, true⟩ .idle) = true) ∧
    (State.reset.inp.rst = false ∧ State.reset.inp.evWrite = false ∧ elAck State.reset = false) := by decide

theorem test_witness_SelectOverflowLoadsConstants :
    (capState ⟨taMax, true⟩ ⟨7, true⟩ .idle).inp.rst = false ∧
    (capState ⟨taMax, true⟩ ⟨7, true⟩ .idle).fe.state = .idle ∧
    (capState ⟨taMax, true⟩ ⟨7, true⟩ .idle).ta.overflow = true := by decide

/-- The hypotheses under which the arbiter selects the pending event. -/
abbrev eventReady (s : State) : Prop :=
  s.inp.rst = false ∧ s.fe.state = .idle ∧ s.ta.overflow = false ∧ s.el.new = true

/-- The hypotheses under which the arbiter selects the capture byte. -/
abbrev captureReady (s : State) : Prop :=
  s.inp.rst = false ∧ s.fe.state = .idle ∧ s.ta.overflow = false ∧ s.el.new = false ∧ s.inp.capValid = true

theorem test_witness_SelectEventTakesThePendingEvent : eventReady (capState ⟨taMax, false⟩ ⟨7, true⟩ evInputs) := by
  decide

theorem test_witness_SelectCaptureTakesTheByte :
    captureReady (capState ⟨15, false⟩ ⟨7, false⟩ (capInputs false)) ∧ (capInputs false).capCtl = false ∧
    captureReady (capState ⟨16, false⟩ ⟨7, false⟩ (capInputs true)) ∧ (capInputs true).capCtl = true := by decide

theorem test_witness_EventFormsSelectTheirRecord :
    (eventReady (capState ⟨15, false⟩ ⟨7, true⟩ .idle) ∧ (15 : Delta) = (15 : BitVec 4).setWidth 28) ∧
    (eventReady (capState ⟨16, false⟩ ⟨7, true⟩ .idle) ∧ 16 ≤ (16 : BitVec 12).toNat ∧
      (16 : Delta) = (16 : BitVec 12).setWidth 28) ∧
    (eventReady (capState ⟨4096, false⟩ ⟨7, true⟩ .idle) ∧ 4096 ≤ (4096 : BitVec 20).toNat ∧
      (4096 : Delta) = (4096 : BitVec 20).setWidth 28) ∧
    (eventReady (capState ⟨taMax, false⟩ ⟨7, true⟩ .idle) ∧ 1048576 ≤ taMax.toNat ∧ taMax = taMax.setWidth 28) := by
  decide

theorem test_witness_CaptureFormsSelectTheirRecord_data :
    (capInputs false).capCtl = false ∧
    (captureReady (capState ⟨15, false⟩ ⟨7, false⟩ (capInputs false)) ∧ (15 : Delta) = (15 : BitVec 4).setWidth 28) ∧
    (captureReady (capState ⟨16, false⟩ ⟨7, false⟩ (capInputs false)) ∧ (16 : Delta) = (16 : BitVec 12).setWidth 28) ∧
    (captureReady (capState ⟨4096, false⟩ ⟨7, false⟩ (capInputs false)) ∧
      (4096 : Delta) = (4096 : BitVec 20).setWidth 28) ∧
    (captureReady (capState ⟨1048576, false⟩ ⟨7, false⟩ (capInputs false)) ∧
      (1048576 : Delta) = (1048576 : BitVec 28).setWidth 28) := by decide

theorem test_witness_CaptureFormsSelectTheirRecord_control :
    (capInputs true).capCtl = true ∧
    (captureReady (capState ⟨0, false⟩ ⟨7, false⟩ (capInputs true)) ∧ (0 : Delta) = (0 : BitVec 4).setWidth 28) ∧
    (captureReady (capState ⟨4095, false⟩ ⟨7, false⟩ (capInputs true)) ∧
      (4095 : Delta) = (4095 : BitVec 12).setWidth 28) ∧
    (captureReady (capState ⟨1048575, false⟩ ⟨7, false⟩ (capInputs true)) ∧
      (1048575 : Delta) = (1048575 : BitVec 20).setWidth 28) ∧
    (captureReady (capState ⟨taMax, false⟩ ⟨7, false⟩ (capInputs true)) ∧ taMax = taMax.setWidth 28) := by decide

theorem test_witness_OtherSelectionsChangeNothing :
    State.reset.inp.rst = false ∧ arbiter State.reset = .none ∧
    (arbiter (capState ⟨0, false⟩ ⟨7, false⟩ (capInputs true)) = .capture ∧ (capInputs true).capCtl = true) ∧
    (arbiter (capState ⟨0, false⟩ ⟨7, false⟩ (capInputs false)) = .capture ∧ (capInputs false).capCtl = false) ∧
    (recordOf (.evtT0 4 7) = some ⟨.event, 4, 0, 7⟩ ∧
      selectedRecord (capState ⟨5, false⟩ ⟨7, true⟩ .idle) ≠ some ⟨.event, 4, 0, 7⟩) := by decide

theorem test_witness_ArbiterHasStrictPriority :
    overflowInFlight.fe.state ≠ .idle ∧
    ((capState ⟨taMax, true⟩ ⟨7, true⟩ .idle).fe.state = .idle ∧
      (capState ⟨taMax, true⟩ ⟨7, true⟩ .idle).ta.overflow = true) ∧
    eventReady (capState ⟨0, false⟩ ⟨7, true⟩ .idle) ∧
    captureReady (capState ⟨0, false⟩ ⟨7, false⟩ (capInputs false)) := by decide

/-- An Overflow record of the serial variant before its last timestamp byte. -/
def serialOverflow : State :=
  { serState { typ := .overflow, delta := taMax, len := 3, payload := 0, state := .timestamp, shift := 0xFF, rem := 1 } with
    ta := { count := taMax, overflow := true } }

theorem test_witness_ArbiterHasStrictPriority_clear :
    (Inv overflowInFlight ∧ running overflowInFlight ∧ recFire overflowInFlight = true) ∧
    (Inv serialOverflow ∧ serialOverflow.inp.rst = false ∧ serialOverflow.cfg.feVariant = .serial ∧
      serFire serialOverflow = true ∧ taClear serialOverflow = true) :=
  ⟨⟨inv_intro (by decide) (by decide), by decide, by decide⟩, inv_intro (by decide) (by decide), by decide⟩

/-- A Data record of the serial variant about to be sent: `64·2 + 16·2 + 4`, two timestamp bytes, payload 0x99. -/
def serialHeader : State :=
  serState { typ := .data, delta := 0x01234, len := 2, payload := 0x99, state := .header, shift := 0x123, rem := 2 }

theorem test_witness_SerialVariantSendsTheEncoding :
    State.reset.fe.state = .idle ∧ Inv serialHeader ∧ serialHeader.cfg.feVariant = .serial ∧
    always (fun i => !i.rst && i.serReady) serialHeader ∧ serialHeader.fe.state = .header :=
  ⟨by decide, inv_intro (by decide) (by decide), by decide, by decide, by decide⟩

theorem test_witness_ParallelVariantPresentsTheEncoding : Inv overflowInFlight ∧ overflowInFlight.fe.state = .emit :=
  ⟨inv_intro (by decide) (by decide), by decide⟩

theorem test_witness_EncoderKeepsRecordOrder :
    Inv overflowInFlight ∧ overflowInFlight.cfg.feVariant = .parallel ∧ noReset overflowInFlight :=
  ⟨inv_intro (by decide) (by decide), by decide, by decide⟩

/-- Everything waits: the encoder for the generator, the generator for a full holding register, that for a full queue, the
queue for a stalled frame. -/
def stalled : State :=
  { tfState .sendBody 2 1 false with
    fe := { State.reset.fe with typ := .data, delta := 15, len := 0, payload := 0x99, state := .emit }
    rpg := { state := .pattern, repeats := 2 }
    wc := { carry := 0x11, remain := 1, state := .normal, outWord := 0x44332211, outValid := true }
    bb := { queue := [1, 2, 3, 4], refused := 0 } }

theorem test_witness_PresentedDataIsHeldUntilAccepted :
    Inv stalled ∧ stalled.inp.rst = false ∧
    (recValid stalled = true ∧ recFire stalled = false) ∧ (rpgValid stalled = true ∧ rpgFire stalled = false) ∧
    (wcoValid stalled = true ∧ wcoFire stalled = false) ∧ (bbrValid stalled = true ∧ bbrFire stalled = false) ∧
    (hostValid stalled = true ∧ hostFire stalled = false) :=
  ⟨inv_intro (by decide) (by decide), by decide, by decide, by decide, by decide, by decide, by decide⟩

theorem test_witness_PresentedDataIsHeldUntilAccepted_serial :
    Inv { serialHeader with inp := { Inputs.idle with serReady := false } } ∧
    serValid { serialHeader with inp := { Inputs.idle with serReady := false } } = true ∧
    serFire { serialHeader with inp := { Inputs.idle with serReady := false } } = false :=
  ⟨inv_intro (by decide) (by decide), by decide, by decide⟩

theorem test_witness_StartBeginsABurst :
    (running State.reset ∧ State.reset.rpg.state = .idle ∧ State.reset.cfg.resyncRepeat ≠ 0) ∧
    (running (State.resetWith { Config.default with resyncRepeat := 0 }) ∧
      (State.resetWith { Config.default with resyncRepeat := 0 }).rpg.state = .idle ∧
      (State.resetWith { Config.default with resyncRepeat := 0 }).cfg.resyncRepeat = 0) ∧
    (running stalled ∧ stalled.rpg.state = .pattern) := by decide

/-- A holding register with `r` bytes in the carry. -/
def carrying (r : BitVec 2) (carry : BitVec 24) (valid : Bool) : WidthConverter :=
  { carry := carry, remain := r, state := .normal, outWord := 0, outValid := valid }

/-- A generator with a literal of five bytes and three bytes in the carry: the two-word case. -/
def twoWords (rpg : ResyncGenerator) (sel : Bool) (wc : WidthConverter) : State :=
  { State.resetWith { Config.default with resyncLen := 5 } with rpg := rpg, muxSelQ := sel, wc := wc }

/-- A generator with a literal of four bytes. -/
def fourByteLiteral (wc : WidthConverter) : State :=
  { State.resetWith { Config.default with resyncLen := 4 } with rpg := { state := .pattern, repeats := 1 }, wc := wc }

theorem test_witness_LiteralTransferCountsDown :
    (∀ s ∈ [rpgState ⟨.pattern, 1⟩ (carrying 0 0 false), rpgState ⟨.pattern, 1⟩ (carrying 1 0x11 false),
      fourByteLiteral (carrying 3 0x332211 false), rpgState ⟨.pattern, 1⟩ (carrying 1 0x11 true),
      twoWords ⟨.pattern, 1⟩ false (carrying 3 0x332211 true)],
      running s ∧ configLegal s.cfg = true ∧ s.rpg.state = .pattern ∧ s.wc.state = .normal) ∧
    (carrying 0 0 false).remain.toNat + State.reset.cfg.resyncLen.toNat < 4 ∧
    (4 ≤ (carrying 1 0x11 false).remain.toNat + State.reset.cfg.resyncLen.toNat ∧
      (carrying 1 0x11 false).outValid = false) ∧
    (3 + (fourByteLiteral (carrying 3 0x332211 false)).cfg.resyncLen.toNat = 7 ∧
      (fourByteLiteral (carrying 3 0x332211 false)).wc.remain = 3 ∧ (carrying 3 0x332211 false).outValid = false) ∧
    (4 ≤ (carrying 1 0x11 true).remain.toNat + State.reset.cfg.resyncLen.toNat ∧ (carrying 1 0x11 true).outValid = true) ∧
    (3 + (twoWords ⟨.pattern, 1⟩ false (carrying 3 0x332211 true)).cfg.resyncLen.toNat = 8 ∧
      (carrying 3 0x332211 true).outValid = true) := by
  decide

theorem test_witness_LiteralInTheTwoWordCase :
    (∀ s ∈ [twoWords ⟨.pattern, 2⟩ false (carrying 3 0x332211 false),
      twoWords ⟨.pattern, 2⟩ true { carrying 0 0 false with state := .sendExtra }, State.reset,
      twoWords ⟨.idle, 0⟩ false { carrying 0 0 false with state := .sendExtra }],
      running s ∧ configLegal s.cfg = true ∧ s.wc.outValid = false) ∧
    (twoWords ⟨.pattern, 2⟩ false (carrying 3 0x332211 false)).rpg.state = .pattern ∧
    (carrying 3 0x332211 false).state = .normal ∧
    (carrying 3 0x332211 false).remain.toNat +
      (twoWords ⟨.pattern, 2⟩ false (carrying 3 0x332211 false)).cfg.resyncLen.toNat = 8 ∧
    ((twoWords ⟨.pattern, 2⟩ true { carrying 0 0 false with state := .sendExtra }).wc.state = .sendExtra ∧
      (twoWords ⟨.pattern, 2⟩ true { carrying 0 0 false with state := .sendExtra }).muxSelQ = true ∧
      (twoWords ⟨.pattern, 2⟩ true { carrying 0 0 false with state := .sendExtra }).rpg.state = .pattern) ∧
    State.reset.rpg.state = .idle ∧
    ((twoWords ⟨.idle, 0⟩ false { carrying 0 0 false with state := .sendExtra }).wc.state = .sendExtra ∧
      (twoWords ⟨.idle, 0⟩ false { carrying 0 0 false with state := .sendExtra }).muxSelQ = false) := by decide

theorem test_witness_MultiplexerHoldsInsideARecord :
    (running State.reset ∧ wcMidRecord State.reset = false) ∧
    running (twoWords ⟨.pattern, 2⟩ false (carrying 3 0x332211 false)) ∧
    wcMidRecord (clock (twoWords ⟨.pattern, 2⟩ false (carrying 3 0x332211 false))) = true := by decide

theorem test_witness_MultiplexerHoldsInsideARecord_sources :
    (Inv overflowInFlight ∧ running overflowInFlight ∧ muxSel overflowInFlight = false ∧ recValid overflowInFlight = true) ∧
    (running (rpgState ⟨.pattern, 1⟩ (carrying 0 0 false)) ∧ muxSel (rpgState ⟨.pattern, 1⟩ (carrying 0 0 false)) = true ∧
      configLegal (rpgState ⟨.pattern, 1⟩ (carrying 0 0 false)).cfg = true) :=
  ⟨⟨inv_intro (by decide) (by decide), by decide, by decide, by decide⟩, by decide⟩

/-- A five-byte encoder record in its second cycle while the generator is busy. -/
def encoderMidRecord : State :=
  { twoWords ⟨.pattern, 2⟩ false { carrying 0 0 false with state := .sendExtra } with
    fe := { State.reset.fe with typ := .data, delta := 1048576, len := 3, payload := 0x99, state := .emit } }

theorem test_witness_BusyGeneratorExcludesTheEncoder :
    (Inv encoderMidRecord ∧ rpgBusy encoderMidRecord = true ∧ recFire encoderMidRecord = true) ∧
    (Inv stalled ∧ rpgBusy stalled = true ∧ wcMidRecord stalled = false) :=
  ⟨⟨inv_intro (by decide) (by decide), by decide, by decide⟩, inv_intro (by decide) (by decide), by decide, by decide⟩

theorem test_witness_BurstSendsItsLiterals :
    Inv (rpgState ⟨.pattern, 4⟩ (carrying 0 0 false)) ∧ running (rpgState ⟨.pattern, 4⟩ (carrying 0 0 false)) ∧
    noReset (rpgState ⟨.pattern, 4⟩ (carrying 0 0 false)) ∧
    (rpgState ⟨.pattern, 4⟩ (carrying 0 0 false)).wc.state = .normal ∧
    ∀ k : Nat, k < 3 → (clockRun k (rpgState ⟨.pattern, 4⟩ (carrying 0 0 false))).rpg.state = .pattern :=
  ⟨inv_intro (by decide) (by decide), by decide, by decide, by decide, by decide⟩

theorem test_witness_WidthConverterTakesByBytesOnHand :
    (∀ s ∈ [rpgState ⟨.pattern, 1⟩ (carrying 0 0 false), rpgState ⟨.pattern, 1⟩ (carrying 1 0x11 false),
      twoWords ⟨.pattern, 2⟩ false (carrying 3 0x332211 false), encoderMidRecord, stalled], running s) ∧
    (wciValid (rpgState ⟨.pattern, 1⟩ (carrying 0 0 false)) = true ∧
      (wciBytes (rpgState ⟨.pattern, 1⟩ (carrying 0 0 false))).length = 3) ∧
    (wciValid (rpgState ⟨.pattern, 1⟩ (carrying 1 0x11 false)) = true ∧
      4 ≤ 1 + (wciBytes (rpgState ⟨.pattern, 1⟩ (carrying 1 0x11 false))).length) ∧
    (wciValid (twoWords ⟨.pattern, 2⟩ false (carrying 3 0x332211 false)) = true ∧
      3 + (wciBytes (twoWords ⟨.pattern, 2⟩ false (carrying 3 0x332211 false))).length = 8) ∧
    (wciValid encoderMidRecord = true ∧ encoderMidRecord.wc.state = .sendExtra ∧ encoderMidRecord.wc.outValid = false) ∧
    (wciValid stalled = true ∧ stalled.wc.outValid = true ∧ 4 ≤ stalled.wc.remain.toNat + (wciBytes stalled).length) := by
  decide

theorem test_witness_NoByteIsLostOrReordered :
    Inv stalled ∧ stalled.cfg.feVariant = .parallel ∧ noReset stalled ∧ stalled.wc.state = .normal :=
  ⟨inv_intro (by decide) (by decide), by decide, by decide, by decide⟩

theorem test_witness_PushMovesOrCountsTheWord :
    (∀ s ∈ [bbState true [1, 2, 3] 0, bbState true [1, 2, 3, 4] 0xFFFFFFFE, bbState true [1, 2, 3, 4] 0xFFFFFFFF,
      State.reset], running s) ∧
    ((bbState true [1, 2, 3, 4] 0xFFFFFFFE).wc.outValid = true ∧ (bbState true [1, 2, 3, 4] 0xFFFFFFFF).wc.outValid = true) ∧
    ((bbState true [1, 2, 3] 0).wc.outValid = true ∧ (bbState true [1, 2, 3] 0).bb.queue.length < State.reset.cfg.bbDepth) ∧
    (State.reset.cfg.bbDepth ≤ (bbState true [1, 2, 3, 4] 0xFFFFFFFE).bb.queue.length ∧
      (bbState true [1, 2, 3, 4] 0xFFFFFFFE).bb.refused.toNat < 2 ^ 32 - 1) ∧
    (bbState true [1, 2, 3, 4] 0xFFFFFFFF).bb.refused.toNat = 2 ^ 32 - 1 ∧
    State.reset.wc.outValid = false := by decide

/-- A word waits while a flush is due. -/
def dueWithWord : State := { tfState .fill 8 0 true with bb := { queue := [5], refused := 0 } }

theorem test_witness_PopDeliversTheOldestWord :
    running (bbState false [5, 6] 0) ∧ running stalled ∧
    ((bbState false [5, 6] 0).bb.queue = [5, 6] ∧ (bbState false [5, 6] 0).tf.state = .fill ∧
      tfTrigger (bbState false [5, 6] 0).cfg (bbState false [5, 6] 0).tf = false) ∧
    (stalled.bb.queue = [1, 2, 3, 4] ∧ stalled.tf.state ≠ .fill) ∧
    (running dueWithWord ∧ dueWithWord.bb.queue = [5] ∧ dueWithWord.tf.state = .fill ∧
      tfTrigger dueWithWord.cfg dueWithWord.tf = true) := by decide

theorem test_witness_BurstBufferPushesAndPopsTogether :
    (bbState true [1, 2, 3, 4] 0).inp.rst = false ∧ (bbState true [1, 2, 3, 4] 0).cfg.feVariant = .parallel ∧
    (bbState true [1, 2, 3, 4] 0).bb.queue.length ≤ (bbState true [1, 2, 3, 4] 0).cfg.bbDepth := by decide

theorem test_witness_WordsLeaveInArrivalOrder :
    noReset (bbState true [1, 2, 3] 0) ∧ (bbState true [1, 2, 3] 0).cfg.feVariant = .parallel := by decide

/-- A batch with an idle timeout of three cycles. -/
def idleBatch (level : Nat) (timer : BitVec 32) : State :=
  { tfState .fill level 0 true with
    cfg := { Config.default with idleTimeout := 3 }
    tf := { (tfState .fill level 0 true).tf with timer := timer } }

theorem test_witness_FlushLatchesTheHeader :
    (∀ s ∈ [tfState .fill 8 0 true, idleBatch 1 3, idleBatch 7 2, State.reset], running s ∧ s.tf.state = .fill) ∧
    ((tfState .fill 8 0 true).cfg.depth ≤ (tfState .fill 8 0 true).tf.level) ∧
    (0 < (idleBatch 1 3).tf.level ∧ (idleBatch 1 3).cfg.idleTimeout.toNat ≤ (idleBatch 1 3).tf.timer.toNat) ∧
    ((idleBatch 7 2).tf.level < (idleBatch 7 2).cfg.depth ∧
      (idleBatch 7 2).tf.timer.toNat < (idleBatch 7 2).cfg.idleTimeout.toNat) ∧
    (State.reset.tf.level < State.reset.cfg.depth ∧ State.reset.tf.level = 0) ∧
    (running stalled ∧ stalled.tf.state ≠ .fill) := by decide

theorem test_witness_FrameHeaderWordsAreSent :
    (∀ s ∈ [tfState .sendLength 1 0 true, tfState .sendLength 8 0 false, tfState .sendTimestamp 1 0 true,
      tfState .sendTimestamp 8 0 false], running s) ∧
    ((tfState .sendLength 1 0 true).tf.state = .sendLength ∧ (tfState .sendLength 1 0 true).inp.hostReady = true) ∧
    ((tfState .sendLength 8 0 false).tf.state = .sendLength ∧ (tfState .sendLength 8 0 false).inp.hostReady = false) ∧
    ((tfState .sendTimestamp 1 0 true).tf.state = .sendTimestamp ∧ (tfState .sendTimestamp 1 0 true).inp.hostReady = true) ∧
    ((tfState .sendTimestamp 8 0 false).tf.state = .sendTimestamp ∧
      (tfState .sendTimestamp 8 0 false).inp.hostReady = false) := by decide

theorem test_witness_FramePayloadWordIsSent :
    (∀ s ∈ [tfState .sendBody 2 1 true, tfState .sendBody 2 0 true],
      running s ∧ s.inp.hostReady = true ∧ s.tf.state = .sendBody) ∧
    ((tfState .sendBody 2 1 true).tf.acc[1]? = some 0xA1 ∧ (tfState .sendBody 2 1 true).tf.level = 1 + 1) ∧
    ((tfState .sendBody 2 0 true).tf.acc[0]? = some 0xA0 ∧ (tfState .sendBody 2 0 true).tf.level ≠ 0 + 1) := by decide

theorem test_witness_FrameWordsNotPresentedWait :
    (∀ s ∈ [State.reset, stalled, tfState .sendLength 2 0 true, tfState .sendTimestamp 2 0 true,
      tfState .sendBody 2 0 true], s.inp.rst = false) ∧ stalled.inp.hostReady = false ∧ State.reset.tf.state ≠ .sendLength ∧
    State.reset.tf.state ≠ .sendTimestamp ∧ State.reset.tf.state ≠ .sendBody ∧
    (0x14 : Word) ≠ (tfState .sendLength 2 0 true).tf.lenLatch ∧
    (0x61 : Word) ≠ (tfState .sendTimestamp 2 0 true).tf.tsLatch ∧
    (0xA1 : Word) ≠ hostData (tfState .sendBody 2 0 true) := by decide

theorem test_witness_FreeRunningCounterOnlyCountsCycles :
    stalled.inp.rst = false ∧ stalled.cfg.feVariant = .parallel ∧
    (Instr.tick ≠ .reset ∧ (nextOf (exec .tick stalled)).isSome = true) := by decide

/-- A batch with a word accepted in this cycle, under both settings of the restart parameter. -/
def batchWithWord (restart : Bool) : State :=
  { tfState .fill 7 0 true with
    cfg := { Config.default with timerRestartOnWord := restart }
    tf := { (tfState .fill 7 0 true).tf with timer := 5 }
    bb := { queue := [5], refused := 0 } }

theorem test_witness_IdleBatchIsFlushedAtTheTimeout_timer :
    (∀ s ∈ [State.reset, batchWithWord true, batchWithWord false, idleBatch 7 2],
      running s ∧ s.tf.state = .fill ∧ tfTrigger s.cfg s.tf = false) ∧
    State.reset.tf.level = 0 ∧ (bbrFire (batchWithWord true) = true ∧ (batchWithWord true).tf.level ≠ 0) ∧
    (bbrFire (batchWithWord false) = true ∧ (batchWithWord false).tf.level ≠ 0) ∧
    (running (idleBatch 1 3) ∧ (idleBatch 1 3).tf.state = .fill ∧ tfTrigger (idleBatch 1 3).cfg (idleBatch 1 3).tf = true) ∧
    (running (tfState .sendBody 1 0 true) ∧ hostFire (tfState .sendBody 1 0 true) = true ∧
      hostLast (tfState .sendBody 1 0 true) = true) ∧
    (running (tfState .sendBody 2 0 true) ∧ hostLast (tfState .sendBody 2 0 true) = false) ∧
    (running stalled ∧ stalled.tf.state ≠ .fill ∧ hostFire stalled = false) := by decide

theorem test_witness_IdleBatchIsFlushedAtTheTimeout :
    Inv (idleBatch 7 0) ∧ (idleBatch 7 0).cfg.feVariant = .parallel ∧ noReset (idleBatch 7 0) ∧
    (idleBatch 7 0).tf.state = .fill ∧ 0 < (idleBatch 7 0).tf.level ∧
    (idleBatch 7 0).tf.level < (idleBatch 7 0).cfg.depth ∧ (idleBatch 7 0).tf.timer = 0 ∧
    ∀ k : Nat, k < (idleBatch 7 0).cfg.idleTimeout.toNat → bbrValid (clockRun k (idleBatch 7 0)) = false :=
  ⟨inv_intro (by decide) (by decide), by decide, by decide, by decide, by decide, by decide, by decide, by decide⟩

theorem test_witness_FrameGoesOutWhole :
    Inv (tfState .sendLength 1 0 true) ∧ running (tfState .sendLength 1 0 true) ∧
    always (fun i => !i.rst && i.hostReady) (tfState .sendLength 1 0 true) ∧
    (tfState .sendLength 1 0 true).tf.state = .sendLength :=
  ⟨inv_intro (by decide) (by decide), by decide, by decide, by decide⟩

theorem test_witness_HostStallHoldsTheFrame :
    stalled.inp.rst = false ∧ stalled.cfg.feVariant = .parallel ∧ stalled.tf.state ≠ .fill ∧
    stalled.inp.hostReady = false ∧ (clock stalled).inp.rst = false := by decide

theorem test_witness_ResetTakesTheResetValues :
    { stalled with inp := rstInputs }.inp.rst = true ∧ (nextOf (exec .reset stalled)).isSome = true := by decide

theorem test_witness_ResetOverridesEveryOperation : { stalled with inp := rstInputs }.inp.rst = true := by decide

theorem test_witness_PortsAreQuietDuringReset : { stalled with inp := rstInputs }.inp.rst = true := by decide

theorem test_witness_StepRunsTheIssuedInstruction :
    configLegal (State.reset.withFetchWord 24 0xE00050).cfg = true ∧
    (State.reset.withFetchWord 24 0xE00050).issue = some ⟨.stream, [0x50, 0x00, 0xE0, 0x00, 0x00]⟩ ∧
    decode ⟨.stream, [0x50, 0x00, 0xE0, 0x00, 0x00]⟩ = .instr .rsy [0x00, 0x00] := by decide

theorem test_witness_StepClocksWhenNothingIsIssued : configLegal stalled.cfg = true ∧ stalled.issue = none := by decide

theorem test_witness_StepRefusesByName :
    configLegal (State.resetWith { Config.default with depth := 0 }).cfg = false ∧
    configLegal (State.resetWith { Config.default with depth := 17 }).cfg = false ∧
    configLegal (State.resetWith { Config.default with resyncLen := 1 }).cfg = false ∧
    (configLegal (placeIssue State.reset ⟨.stream, [0x00]⟩).cfg = true ∧
      (placeIssue State.reset ⟨.stream, [0x00]⟩).issue = some ⟨.stream, [0x00]⟩ ∧
      decode ⟨.stream, [0x00]⟩ = .rejected (.neverProducedHeader 0x00)) := by decide

theorem test_witness_NothingStopsTheBlock :
    (configLegal stalled.cfg = true ∧ stalled.issue = none) ∧
    (configLegal (placeIssue stalled (encode .pop)).cfg = true ∧ Instr.wellFormed .pop = true ∧
      (placeIssue stalled (encode .pop)).issue = some (encode .pop)) := by decide

theorem test_witness_StepKeepsTheInvariant : Inv stalled ∧ step stalled = .next (clock stalled) :=
  ⟨inv_intro (by decide) (by decide), by rfl⟩

theorem test_witness_ResetStateHasTheInvariant :
    configLegal Config.default = true ∧
    configLegal { Config.default with depth := 16, resyncLen := 2, bbDepth := 1 } = true ∧
    configLegal { Config.default with depth := 1, resyncLen := 5, idleTimeout := 1 } = true := by decide

theorem test_witness_StepKeepsTheConfiguration : step stalled = .next (clock stalled) := by rfl

theorem test_witness_OperationsWriteTheirOwnComponents :
    stalled.inp.rst = false ∧
    (∀ i ∈ [Instr.push, Instr.tick, Instr.pop, Instr.frameLength 0x10, Instr.evtT0 0 7],
      i ≠ .reset ∧ (nextOf (exec i stalled)).isSome = true) ∧
    (recordOf .push = none ∧
      Instr.push ∉ [Instr.tick, .consume, .clearOverflow, .selectEvent, .selectData, .selectControl]) ∧
    ((recordOf (.ovf 0xFFFFFF)).map (·.typ) = some .overflow ∧
      Instr.ovf 0xFFFFFF ∉ [Instr.tick, .consume, .clearOverflow, .selectEvent, .selectData, .selectControl] ∧
      (nextOf (exec (.ovf 0xFFFFFF) (capState ⟨taMax, true⟩ ⟨7, true⟩ .idle))).isSome = true) ∧
    Instr.tick ∉ [Instr.write, .ack, .selectEvent] ∧ Instr.pop ∉ [Instr.rsy, .push] ∧
    Instr.frameLength 0x10 ∉ [Instr.push, .pop] ∧ Instr.push ∉ [Instr.pop, .flush] := by decide

theorem test_witness_ClockRunsTheStrobedOperations_capture :
    (∀ s ∈ [capState ⟨5, false⟩ ⟨7, true⟩ .idle, overflowInFlight, State.reset, capState ⟨0, false⟩ ⟨7, true⟩ evInputs,
      capState ⟨taMax, true⟩ ⟨7, true⟩ .idle, capState ⟨5, false⟩ ⟨7, false⟩ (capInputs false),
      capState ⟨5, false⟩ ⟨7, false⟩ (capInputs true)], running s) ∧
    taConsume (capState ⟨5, false⟩ ⟨7, true⟩ .idle) = true ∧
    (taConsume overflowInFlight = false ∧ taClear overflowInFlight = true) ∧
    (taConsume State.reset = false ∧ taClear State.reset = false) ∧ evInputs.evWrite = true ∧
    elAck (capState ⟨5, false⟩ ⟨7, true⟩ .idle) = true ∧
    arbiter (capState ⟨taMax, true⟩ ⟨7, true⟩ .idle) = .overflow ∧
    arbiter (capState ⟨5, false⟩ ⟨7, true⟩ .idle) = .event ∧
    (arbiter (capState ⟨5, false⟩ ⟨7, false⟩ (capInputs false)) = .capture ∧ (capInputs false).capCtl = false) ∧
    (arbiter (capState ⟨5, false⟩ ⟨7, false⟩ (capInputs true)) = .capture ∧ (capInputs true).capCtl = true) ∧
    (recordOf (.evtT0 5 7) = some ⟨.event, 5, 0, 7⟩ ∧
      selectedRecord (capState ⟨5, false⟩ ⟨7, true⟩ .idle) = some ⟨.event, 5, 0, 7⟩) := by decide

theorem test_witness_ClockRunsTheStrobedOperations_transport :
    (∀ s ∈ [{ State.reset with inp := { Inputs.idle with resyncStart := true } }, rpgState ⟨.pattern, 1⟩ (carrying 0 0 false),
      stalled, bbState false [5, 6] 0, tfState .fill 8 0 true, tfState .sendLength 1 0 true, tfState .sendTimestamp 1 0 true,
      tfState .sendBody 1 0 true, rpgState ⟨.pattern, 1⟩ (carrying 1 0x11 true), bbState true [5, 6] 0], running s) ∧
    (rpgBusy { State.reset with inp := { Inputs.idle with resyncStart := true } } = false) ∧
    (∀ s ∈ [rpgState ⟨.pattern, 1⟩ (carrying 0 0 false), rpgState ⟨.pattern, 1⟩ (carrying 1 0x11 true)],
      rpgValid s = true ∧ muxSel s = true) ∧
    wcoFire (rpgState ⟨.pattern, 1⟩ (carrying 0 0 false)) = false ∧
    wcoFire (rpgState ⟨.pattern, 1⟩ (carrying 1 0x11 true)) = true ∧
    (wcoFire (bbState true [5, 6] 0) = true ∧ wciValid (bbState true [5, 6] 0) = false ∧
      bbrFire (bbState true [5, 6] 0) = true) ∧
    (wcoValid stalled = true ∧ bbrFire stalled = false) ∧
    (wcoValid (bbState false [5, 6] 0) = false ∧ bbrFire (bbState false [5, 6] 0) = true) ∧
    tfTrigger (tfState .fill 8 0 true).cfg (tfState .fill 8 0 true).tf = true ∧
    hostFire (tfState .sendLength 1 0 true) = true ∧ hostFire (tfState .sendTimestamp 1 0 true) = true ∧
    hostFire (tfState .sendBody 1 0 true) = true := by decide

/-- What a component keeps in a cycle without a strobe, and the serial variant's selection. -/
theorem test_witness_ClockRunsTheStrobedOperations_holds :
    (State.reset.inp.evWrite = false ∧ elAck State.reset = false ∧ State.reset.fe.state = .idle ∧
      arbiter State.reset = .none) ∧
    (recFire overflowInFlight = true ∧ overflowInFlight.inp.rst = false) ∧
    (stalled.fe.state ≠ .idle ∧ recFire stalled = false ∧ serFire stalled = false) ∧
    (arbiter { serState State.reset.fe with el := ⟨7, true⟩ } = .event ∧
      { serState State.reset.fe with el := ⟨7, true⟩ }.cfg.feVariant = .serial) ∧
    (running State.reset ∧ State.reset.rpg.state = .idle ∧ State.reset.inp.resyncStart = false ∧
      wciValid State.reset = false ∧ wcoFire State.reset = false ∧ wcoValid State.reset = false ∧ bbrFire State.reset = false ∧
      State.reset.tf.state = .fill ∧ tfTrigger State.reset.cfg State.reset.tf = false) ∧
    (running (State.resetWith { Config.default with resyncRepeat := 0 }) ∧
      (State.resetWith { Config.default with resyncRepeat := 0 }).rpg.state = .idle) ∧
    (running encoderMidRecord ∧ encoderMidRecord.rpg.state = .pattern ∧ rpgFire encoderMidRecord = false) ∧
    (running stalled ∧ stalled.tf.state ≠ .fill ∧ hostFire stalled = false) := by decide

end Sys2Proof.Tests
end

/-! # Scope: what an instruction does, what a step can do, and the clock cycle beside the operations it runs

Every row of the opcode table acts through the one clock edge of R115, so `effect` names the state each row hands to that
edge. Resets, the configuration and the comparison with a clock cycle then follow from the edge and the shared operations,
and no proof opens the instructions again. -/

section

namespace Sys2Proof.Machine

/-! ### The effect of an instruction -/

/-- The state an instruction hands to the clock edge (R115); a record form selects its record (R114). -/
def effect (i : Instr) (s : State) : State :=
  match i with
  | .rsy => onPipeline s (presentLiteral s)
  | .frameLength w => onPipeline s (hostTransfer .sendLength w s)
  | .frameTimestamp w => onPipeline s (hostTransfer .sendTimestamp w s)
  | .framePayload w => onPipeline s (hostTransfer .sendBody w s)
  | .tick => { s with ta := taNext s.cfg false false s.ta }
  | .consume => { s with ta := taNext s.cfg true false s.ta }
  | .clearOverflow => { s with ta := taNext s.cfg false true s.ta }
  | .write => { s with el := elNext true s.inp.evCode false s.el }
  | .ack => { s with el := elNext s.inp.evWrite s.inp.evCode true s.el }
  | .selectOverflow => selectIf (arbiter s == .overflow) s
  | .selectEvent => selectIf (arbiter s == .event) s
  | .selectData => selectIf (arbiter s == .capture && !s.inp.capCtl) s
  | .selectControl => selectIf (arbiter s == .capture && s.inp.capCtl) s
  | .start => onPipeline s { s with rpg := rpgNext s.cfg true false s.rpg }
  | .push => onPipeline s (writePort s)
  | .pop => onPipeline s (readPort s)
  | .flush => onPipeline s (flushIfDue s)
  | .reset => resetRegisters s
  | record => (recordOf record).elim s fun r => selectRecord r s

/-- A record form selects the record it stands for. -/
theorem effect_record {i : Instr} {r : Record} (h : recordOf i = some r) (s : State) :
    effect i s = selectRecord r s := by
  cases i <;> cases h <;> rfl

/-- Every instruction of the table takes effect on the clock edge, RESET included. -/
theorem exec_eq_onEdge (i : Instr) (s : State) : exec i s = onEdge s (effect i s) := by
  cases i
  case reset => exact congrArg Host.Outcome.next (ite_self (resetRegisters s)).symm
  all_goals rfl

/-- With reset every instruction answers the reset registers. -/
theorem exec_reset {s : State} (h : s.inp.rst = true) (i : Instr) : exec i s = .next (resetRegisters s) := by
  rw [exec_eq_onEdge, onEdge_reset h]

/-- Without reset every instruction answers its effect. -/
theorem exec_run {s : State} (h : s.inp.rst = false) (i : Instr) : exec i s = .next (effect i s) := by
  rw [exec_eq_onEdge, onEdge_run h]

/-- Without reset the state an instruction leaves is its effect. -/
theorem after_run {s : State} (h : s.inp.rst = false) (i : Instr) : after i s = effect i s := by
  rw [after, exec_run h]

/-! ### The configuration under the operations -/

@[simp] theorem onPipeline_cfg {s t : State} (h : t.cfg = s.cfg) : (onPipeline s t).cfg = s.cfg := by
  unfold onPipeline; split <;> simp [h]

@[simp] theorem select_cfg (s : State) : (select s).cfg = s.cfg := by
  rcases select_cases s with ⟨-, e⟩ | ⟨_, -, e⟩ <;> rw [e]

@[simp] theorem selectIf_cfg (b : Bool) (s : State) : (selectIf b s).cfg = s.cfg := by
  rcases selectIf_cases b s with ⟨-, e⟩ | ⟨-, e⟩ <;> simp [e]

@[simp] theorem selectRecord_cfg (r : Record) (s : State) : (selectRecord r s).cfg = s.cfg := by
  rcases selectRecord_cases r s with ⟨-, e⟩ | ⟨-, e⟩ <;> simp [e]

@[simp] theorem presentLiteral_cfg (s : State) : (presentLiteral s).cfg = s.cfg := by
  rcases presentLiteral_cases s with ⟨-, -, e⟩ | ⟨-, e⟩ <;> rw [e]

@[simp] theorem writePort_cfg (s : State) : (writePort s).cfg = s.cfg := rfl

@[simp] theorem readPort_cfg (s : State) : (readPort s).cfg = s.cfg := by
  rcases readPort_cases s with ⟨-, e⟩ | ⟨-, e⟩ <;> rw [e]

@[simp] theorem flushIfDue_cfg (s : State) : (flushIfDue s).cfg = s.cfg := by
  rcases flushIfDue_cases s with ⟨-, -, e⟩ | ⟨-, e⟩ <;> rw [e]

@[simp] theorem hostTransfer_cfg (st : TfState) (w : Word) (s : State) : (hostTransfer st w s).cfg = s.cfg := by
  rcases hostTransfer_cases st w s with ⟨-, -, -, e⟩ | ⟨-, e⟩ <;> rw [e]

/-- No instruction writes the configuration. -/
@[simp] theorem effect_cfg (i : Instr) (s : State) : (effect i s).cfg = s.cfg := by
  cases hrec : recordOf i with
  | some r => rw [effect_record hrec, selectRecord_cfg]
  | none =>
    cases i with
    | rsy => exact onPipeline_cfg (presentLiteral_cfg s)
    | frameLength w => exact onPipeline_cfg (hostTransfer_cfg .sendLength w s)
    | frameTimestamp w => exact onPipeline_cfg (hostTransfer_cfg .sendTimestamp w s)
    | framePayload w => exact onPipeline_cfg (hostTransfer_cfg .sendBody w s)
    | tick => rfl
    | consume => rfl
    | clearOverflow => rfl
    | write => rfl
    | ack => rfl
    | selectOverflow => exact selectIf_cfg _ s
    | selectEvent => exact selectIf_cfg _ s
    | selectData => exact selectIf_cfg _ s
    | selectControl => exact selectIf_cfg _ s
    | start => exact onPipeline_cfg rfl
    | push => exact onPipeline_cfg (writePort_cfg s)
    | pop => exact onPipeline_cfg (readPort_cfg s)
    | flush => exact onPipeline_cfg (flushIfDue_cfg s)
    | reset => rfl
    | _ => cases hrec

theorem exec_cfg {i : Instr} {s t : State} (h : exec i s = .next t) : t.cfg = s.cfg := by
  cases hr : s.inp.rst with
  | true =>
    rw [exec_reset hr, next_inj] at h
    rw [← h, resetRegisters_cfg]
  | false =>
    rw [exec_run hr, next_inj] at h
    rw [← h, effect_cfg]

/-! ### What a step can do -/

/-- Under a legal configuration a step with nothing issued is a clock cycle. -/
theorem step_of_issue_none {s : State} (hc : configLegal s.cfg = true) (hi : s.issue = none) :
    step s = .next (clock s) := by
  simp [step, hc, fetch, hi]

/-- A step that answers a next state is a clock cycle or runs the issued instruction; the configuration is legal. -/
theorem step_cases {s t : State} (h : step s = .next t) :
    configLegal s.cfg = true ∧
      ((s.issue = none ∧ t = clock s) ∨
        ∃ (p : Issue) (i : Instr) (rest : List Byte),
          s.issue = some p ∧ decode p = .instr i rest ∧ exec i (clearIssue s) = .next t) := by
  cases hc : configLegal s.cfg with
  | false => simp [step, hc] at h
  | true =>
    refine ⟨rfl, ?_⟩
    cases hi : s.issue with
    | none =>
      rw [step_of_issue_none hc hi, next_inj] at h
      exact .inl ⟨rfl, h.symm⟩
    | some p =>
      cases hd : decode p with
      | rejected e => simp [step, hc, fetch, hi, hd] at h
      | instr i rest => exact .inr ⟨p, i, rest, rfl, hd, by simpa [step, hc, fetch, hi, hd] using h⟩

end Sys2Proof.Machine

namespace Sys2Proof.Proofs

open Sys2Proof.Machine

/-- Settles O50: both outcomes are the reset edge. -/
theorem resetOverridesEveryOperation : Obligations.ResetOverridesEveryOperation := by
  intro i s hr
  rw [exec_reset hr i, exec_reset hr .reset]

/-- Settles O53. -/
theorem stepClocksWhenNothingIsIssued : Obligations.StepClocksWhenNothingIsIssued :=
  fun _ hc hi => step_of_issue_none hc hi

/-- Settles O58, by what a step can do: a clock cycle or an instruction, and neither writes the configuration. -/
theorem stepKeepsTheConfiguration : Obligations.StepKeepsTheConfiguration := by
  intro s t h
  obtain ⟨-, ⟨-, rfl⟩ | ⟨p, i, rest, -, -, hexec⟩⟩ := step_cases h
  · exact clock_cfg s
  · rw [exec_cfg hexec, clearIssue_cfg]

end Sys2Proof.Proofs

end

/-! # The clock cycle beside the operations whose strobes it asserts (R13, R15, R115) -/

section

namespace Sys2Proof.Machine

/-! ### The capture side, in both variants -/

/-- The arbiter creates a record in `IDLE` only (R151). -/
theorem idle_of_selectedRecord {s : State} {r : Record} (h : selectedRecord s = some r) : s.fe.state = .idle := by
  by_contra hi
  simp [selectedRecord, arbiter, hi] at h

/-- In its sending states the serial variant presents a byte (R161). -/
theorem serValid_of_sending {s : State} (hr : s.inp.rst = false)
    (h : s.fe.state = .header ∨ s.fe.state = .timestamp ∨ s.fe.state = .payload) : serValid s = true := by
  rcases h with h | h | h <;> simp [serValid, hr, h]

section Capture

variable {s : State} (hr : s.inp.rst = false)

include hr

theorem clock_ta_of_consume (hc : taConsume s = true) : (clock s).ta = (after .consume s).ta := by
  rw [clock_ta s hr, captureCycle_ta, hc, after_run hr]
  rfl

theorem clock_ta_of_clear (hc : taConsume s = false) (hk : taClear s = true) :
    (clock s).ta = (after .clearOverflow s).ta := by
  rw [clock_ta s hr, captureCycle_ta, hc, hk, after_run hr]
  rfl

theorem clock_ta_of_no_strobe (hc : taConsume s = false) (hk : taClear s = false) :
    (clock s).ta = (after .tick s).ta := by
  rw [clock_ta s hr, captureCycle_ta, hc, hk, after_run hr]
  rfl

theorem clock_el_of_write (hw : s.inp.evWrite = true) : (clock s).el = (after .write s).el := by
  rw [clock_el s hr, captureCycle_el, hw, after_run hr]
  rfl

theorem clock_el_of_ack (ha : elAck s = true) : (clock s).el = (after .ack s).el := by
  rw [clock_el s hr, captureCycle_el, ha, after_run hr]
  rfl

theorem clock_el_of_no_strobe (hw : s.inp.evWrite = false) (ha : elAck s = false) : (clock s).el = s.el := by
  rw [clock_el s hr, captureCycle_el, hw, ha, elNext_hold]

/-- A cycle in which the arbiter creates a record loads it as the selection does (R152, R153, R154). -/
theorem clock_fe_of_selected {r : Record} (h : selectedRecord s = some r) : (clock s).fe = (select s).fe := by
  rw [clock_fe s hr, captureCycle_fe, feNext_idle (idle_of_selectedRecord h), select, h]
  rfl

/-- As `clock_fe_of_selected`, for a selection strobe that is given by the arbiter's outcome. -/
theorem clock_fe_of_selectIf {b : Bool} (hb : b = true) (ha : arbiter s ≠ .none) :
    (clock s).fe = (selectIf b s).fe := by
  rw [hb]
  rcases selectedRecord_cases s with ⟨-, h⟩ | ⟨-, h⟩ | ⟨-, -, h⟩ | ⟨-, -, h⟩ | ⟨hn, -⟩
  · exact clock_fe_of_selected hr h
  · exact clock_fe_of_selected hr h
  · exact clock_fe_of_selected hr h
  · exact clock_fe_of_selected hr h
  · exact absurd hn ha

theorem clock_fe_of_overflow (ha : arbiter s = .overflow) : (clock s).fe = (after .selectOverflow s).fe := by
  rw [after_run hr]
  exact clock_fe_of_selectIf hr (by simp [ha]) (by simp [ha])

theorem clock_fe_of_event (ha : arbiter s = .event) : (clock s).fe = (after .selectEvent s).fe := by
  rw [after_run hr]
  exact clock_fe_of_selectIf hr (by simp [ha]) (by simp [ha])

theorem clock_fe_of_data (ha : arbiter s = .capture) (hc : s.inp.capCtl = false) :
    (clock s).fe = (after .selectData s).fe := by
  rw [after_run hr]
  exact clock_fe_of_selectIf hr (by simp [ha, hc]) (by simp [ha])

theorem clock_fe_of_control (ha : arbiter s = .capture) (hc : s.inp.capCtl = true) :
    (clock s).fe = (after .selectControl s).fe := by
  rw [after_run hr]
  exact clock_fe_of_selectIf hr (by simp [ha, hc]) (by simp [ha])

theorem clock_fe_of_record {i : Instr} {r : Record} (hi : recordOf i = some r) (h : selectedRecord s = some r) :
    (clock s).fe = (after i s).fe := by
  rw [after_run hr, effect_record hi, selectRecord, if_pos h]
  exact clock_fe_of_selected hr h

theorem clock_fe_of_none_selected (hi : s.fe.state = .idle) (ha : arbiter s = .none) : (clock s).fe = s.fe := by
  have hsel : selectedRecord s = none := by simp [selectedRecord, ha]
  rw [clock_fe s hr, captureCycle_fe, feNext_idle hi, hsel]
  rfl

/-- An accepted record leads FramingEncoder to `IDLE` (R166). -/
theorem clock_fe_of_recFire (hf : recFire s = true) : (clock s).fe = { s.fe with state := .idle } := by
  obtain ⟨hv, hready⟩ : s.fe.state = .emit ∧ recReady s = true := by simpa [recFire, recValid] using hf
  rw [clock_fe s hr, captureCycle_fe, feNext_emit hv, if_pos hready]

/-- In a sending state FramingEncoder waits until its byte or record is accepted (R157, R166). -/
theorem clock_fe_of_no_transfer (hi : s.fe.state ≠ .idle) (hrec : recFire s = false) (hser : serFire s = false) :
    (clock s).fe = s.fe := by
  rw [clock_fe s hr, captureCycle_fe]
  by_cases hemit : s.fe.state = .emit
  · have hready : recReady s = false := by simpa [recFire, recValid, hemit] using hrec
    rw [feNext_emit hemit, hready]
    rfl
  · have hsend : s.fe.state = .header ∨ s.fe.state = .timestamp ∨ s.fe.state = .payload := by
      cases hs : s.fe.state <;> simp_all
    have hready : s.inp.serReady = false := by simpa [serFire, serValid_of_sending hr hsend] using hser
    rw [feNext_serial hsend, hready]
    rfl

end Capture

/-! ### The transport side, parallel variant -/

@[simp] theorem presentLiteral_inp (s : State) : (presentLiteral s).inp = s.inp := by
  rcases presentLiteral_cases s with ⟨-, -, e⟩ | ⟨-, e⟩ <;> rw [e]

@[simp] theorem presentLiteral_bb (s : State) : (presentLiteral s).bb = s.bb := by
  rcases presentLiteral_cases s with ⟨-, -, e⟩ | ⟨-, e⟩ <;> rw [e]

@[simp] theorem writePort_inp (s : State) : (writePort s).inp = s.inp := rfl

@[simp] theorem writePort_tf (s : State) : (writePort s).tf = s.tf := rfl

theorem writePort_wc (s : State) : (writePort s).wc = wcDrain (wcoFire s) s.wc := rfl

theorem writePort_bb (s : State) :
    (writePort s).bb = bbNext false (wcoValid s) (wcoReady s) (wcoWord s) s.bb := rfl

theorem readPort_bb (s : State) : (readPort s).bb = if bbrFire s then bbPop s.bb else s.bb := by
  unfold readPort; split <;> rfl

/-- While the holding register is full WidthConverter's input side does not write it (R185, R187). -/
theorem wcTake_of_outValid {wc : WidthConverter} (h : wc.outValid = true) (slot : Slot) (l : BitVec 2) :
    (wcTake slot l wc).outValid = true ∧ (wcTake slot l wc).outWord = wc.outWord := by
  rcases wcTake_cases slot l wc with ⟨-, -, e⟩ | ⟨-, -, -, hv, -⟩ | ⟨-, -, hv, -⟩ | ⟨-, hv, -⟩ | ⟨-, -, e⟩
  · rw [e]; exact ⟨h, rfl⟩
  · simp [h] at hv
  · simp [h] at hv
  · simp [h] at hv
  · rw [e]; exact ⟨h, rfl⟩

/-- Outside `IDLE` the generator does not look at its trigger (R204). -/
theorem rpgNext_start_of_pattern {rpg : ResyncGenerator} (h : rpg.state = .pattern) (c : Config) (start fire : Bool) :
    rpgNext c start fire rpg = rpgNext c false fire rpg := by
  simp [rpgNext, h]

/-- In `IDLE` the generator has no transfer to count (R205). -/
theorem rpgNext_fire_of_idle {rpg : ResyncGenerator} (h : rpg.state = .idle) (c : Config) (start fire : Bool) :
    rpgNext c start fire rpg = rpgNext c start false rpg := by
  simp [rpgNext, h]

/-- No accepted host word touches the free-running counter (R237). -/
@[simp] theorem tfSent_clock (tf : TransportFramer) : (tfSent tf).clock = tf.clock := by
  rcases tfSent_cases tf with ⟨-, e⟩ | ⟨-, e⟩ | ⟨-, e⟩ | ⟨-, -, e⟩ | ⟨-, -, e⟩ <;> rw [e]

/-- A due flush wins over everything else in `FILL` (R236, R245). -/
theorem tfPhase_flush {c : Config} {tf : TransportFramer} (hfill : tf.state = .fill) (htrig : tfTrigger c tf = true)
    (wf : Bool) (w : Word) (hf : Bool) : tfPhase c wf w hf tf = tfFlush tf := by
  simp [tfPhase, hfill, htrig]

/-- In `FILL` without a flush the timer runs and an arriving word is accepted (R234, R235). -/
theorem tfPhase_fill {c : Config} {tf : TransportFramer} (hfill : tf.state = .fill) (htrig : tfTrigger c tf = false)
    (wf : Bool) (w : Word) (hf : Bool) :
    tfPhase c wf w hf tf = if wf then tfAccept w (tfTimer c true tf) else tfTimer c false tf := by
  simp [tfPhase, hfill, htrig]

/-- In a sending state only an accepted host word does anything (R241 to R244). -/
theorem tfPhase_send {tf : TransportFramer} (hsend : tf.state ≠ .fill) (c : Config) (wf : Bool) (w : Word) (hf : Bool) :
    tfPhase c wf w hf tf = if hf then tfSent tf else tf := by
  cases hs : tf.state <;> simp_all [tfPhase]

/-- Pushing after popping is popping after pushing, when there is a head to pop (R219). -/
theorem bbNext_pop_of_nonempty {bb : BurstBuffer} (h : bb.queue ≠ []) (valid ready : Bool) (w : Word) :
    bbNext true valid ready w bb = bbPop (bbNext false valid ready w bb) := by
  cases valid <;> cases ready <;> simp [bbNext, bbPop, bbPush, bbRefuse, List.tail_append_of_ne_nil h]

/-- A word that enters the queue does not hide the head: what TransportFramer could take it still can (R216, R219). -/
theorem bbrFire_writePort {s : State} (h : bbrFire s = true) : bbrFire (writePort s) = true := by
  simp only [bbrFire, bbrValid, bbEmpty, bbrReady, writePort_tf, writePort_cfg, writePort_bb, bbNext_queue,
    Bool.and_eq_true, Bool.not_eq_true', List.isEmpty_eq_false_iff] at h ⊢
  exact ⟨by simp [h.1], h.2⟩

section Transport

variable {s : State} (hr : s.inp.rst = false) (hv : s.cfg.feVariant = .parallel)

include hr hv

/-! What the operations of the transport side leave. -/

theorem after_start : after .start s = { s with rpg := rpgNext s.cfg true false s.rpg } := by
  rw [after_run hr]; exact onPipeline_parallel hv _

theorem after_rsy : after .rsy s = presentLiteral s := by
  rw [after_run hr]; exact onPipeline_parallel hv _

theorem after_push : after .push s = writePort s := by
  rw [after_run hr]; exact onPipeline_parallel hv _

theorem after_pop : after .pop s = readPort s := by
  rw [after_run hr]; exact onPipeline_parallel hv _

theorem after_flush : after .flush s = flushIfDue s := by
  rw [after_run hr]; exact onPipeline_parallel hv _

theorem after_frameLength (w : Word) : after (.frameLength w) s = hostTransfer .sendLength w s := by
  rw [after_run hr]; exact onPipeline_parallel hv _

theorem after_frameTimestamp (w : Word) : after (.frameTimestamp w) s = hostTransfer .sendTimestamp w s := by
  rw [after_run hr]; exact onPipeline_parallel hv _

theorem after_framePayload (w : Word) : after (.framePayload w) s = hostTransfer .sendBody w s := by
  rw [after_run hr]; exact onPipeline_parallel hv _

/-! ResyncPatternGenerator. -/

theorem clock_rpg_of_start (hi : s.rpg.state = .idle) (hs : s.inp.resyncStart = true) :
    (clock s).rpg = (after .start s).rpg := by
  rw [clock_rpg s hr hv, transportCycle_rpg, hs, rpgNext_fire_of_idle hi, after_start hr hv]

theorem clock_rpg_of_no_start (hi : s.rpg.state = .idle)
    (hs : s.inp.resyncStart = false ∨ s.cfg.resyncRepeat = 0) : (clock s).rpg = s.rpg := by
  rw [clock_rpg s hr hv, transportCycle_rpg]
  rcases hs with hs | hs <;> simp [rpgNext, hi, hs]

theorem clock_rpg_of_no_transfer (hp : s.rpg.state = .pattern) (hf : rpgFire s = false) :
    (clock s).rpg = s.rpg := by
  rw [clock_rpg s hr hv, transportCycle_rpg, hf]
  simp [rpgNext, hp]

/-! The literal at the multiplexer: RSY. -/

/-- The generator selected with its literal presented: what RSY leaves, the holding register not drained (R203, R206). -/
theorem after_rsy_of_presented (hval : rpgValid s = true) (hsel : muxSel s = true) :
    after .rsy s = { s with
      rpg := rpgNext s.cfg false (rpgFire s) s.rpg
      muxSelQ := muxSel s
      wc := wcTake (rpgSlot s) (rpgLencode s) s.wc } := by
  rw [after_rsy hr hv, presentLiteral, hsel, hval]
  rfl

theorem clock_rpg_of_literal (hval : rpgValid s = true) (hsel : muxSel s = true) :
    (clock s).rpg = (after .rsy s).rpg := by
  have hp : s.rpg.state = .pattern := by simpa [rpgValid, rpgBusy] using hval
  rw [clock_rpg s hr hv, transportCycle_rpg, rpgNext_start_of_pattern hp, after_rsy_of_presented hr hv hval hsel]

theorem clock_muxSelQ_of_literal (hval : rpgValid s = true) (hsel : muxSel s = true) :
    (clock s).muxSelQ = (after .rsy s).muxSelQ := by
  rw [clock_muxSelQ s hr hv, transportCycle_muxSelQ, after_rsy_of_presented hr hv hval hsel]

/-- With the literal presented WidthConverter takes it and its holding register drains (R194). -/
theorem clock_wc_of_literal (hval : rpgValid s = true) (hsel : muxSel s = true) :
    (clock s).wc = wcDrain (wcoFire s) (after .rsy s).wc := by
  rw [clock_wc s hr hv, transportCycle_wc, after_rsy_of_presented hr hv hval hsel]
  simp [wcNext, wciValid, wciSlot, wciLencode, hval, hsel]

/-- A word that leaves in a cycle leaves after RSY too: the holding register keeps it and the queue is as it was. -/
theorem wcoFire_after_rsy (hf : wcoFire s = true) : wcoFire (after .rsy s) = true := by
  obtain ⟨hout, hready⟩ : s.wc.outValid = true ∧ bbFull s = false := by
    simpa [wcoFire, wcoValid, wcoReady] using hf
  have hkeep : (presentLiteral s).wc.outValid = true := by
    rcases presentLiteral_cases s with ⟨-, -, e⟩ | ⟨-, e⟩ <;> rw [e]
    · exact (wcTake_of_outValid hout _ _).1
    · exact hout
  rw [after_rsy hr hv]
  simpa [wcoFire, wcoValid, wcoReady, hkeep, bbFull] using hready

theorem clock_wc_of_literal_and_push (hval : rpgValid s = true) (hsel : muxSel s = true) (hf : wcoFire s = true) :
    (clock s).wc = (after .push (after .rsy s)).wc := by
  have hr' : (after .rsy s).inp.rst = false := by simpa [after_rsy hr hv] using hr
  have hv' : (after .rsy s).cfg.feVariant = .parallel := by simpa [after_rsy hr hv] using hv
  rw [clock_wc_of_literal hr hv hval hsel, after_push hr' hv', writePort_wc, hf, wcoFire_after_rsy hr hv hf]

/-! WidthConverter's holding register: PUSH. -/

theorem clock_wc_of_no_record (hn : wciValid s = false) : (clock s).wc = wcDrain (wcoFire s) s.wc := by
  rw [clock_wc s hr hv, transportCycle_wc, hn]
  rfl

theorem clock_wc_of_push (hn : wciValid s = false) : (clock s).wc = (after .push s).wc := by
  rw [clock_wc_of_no_record hr hv hn, after_push hr hv, writePort_wc]

theorem clock_wc_of_hold (hn : wciValid s = false) (hf : wcoFire s = false) : (clock s).wc = s.wc := by
  rw [clock_wc_of_no_record hr hv hn, hf, wcDrain_false]

/-- Where a word leaves, the holding register ends as after PUSH, whatever record is presented (R182, R185). -/
theorem clock_holding_of_push (hf : wcoFire s = true) :
    (clock s).wc.outValid = (after .push s).wc.outValid ∧ (clock s).wc.outWord = (after .push s).wc.outWord := by
  have hout : s.wc.outValid = true := (Bool.and_eq_true_iff.mp hf).1
  rw [clock_wc s hr hv, transportCycle_wc, after_push hr hv, writePort_wc, hf, wcNext]
  cases wciValid s with
  | false => exact ⟨rfl, rfl⟩
  | true => exact ⟨rfl, (wcTake_of_outValid hout _ _).2⟩

/-! BurstBuffer: PUSH and POP. -/

theorem clock_bb_of_push (hf : bbrFire s = false) : (clock s).bb = (after .push s).bb := by
  rw [clock_bb s hr hv, transportCycle_bb, hf, after_push hr hv, writePort_bb]

theorem clock_bb_of_pop (hn : wcoValid s = false) (hf : bbrFire s = true) : (clock s).bb = (after .pop s).bb := by
  rw [clock_bb s hr hv, transportCycle_bb, hn, hf, after_pop hr hv, readPort_bb, hf]
  rfl

theorem clock_bb_of_push_and_pop (hf : bbrFire s = true) : (clock s).bb = (after .pop (after .push s)).bb := by
  have hne : s.bb.queue ≠ [] := by
    simp only [bbrFire, bbrValid, bbEmpty, Bool.and_eq_true, Bool.not_eq_true', List.isEmpty_eq_false_iff] at hf
    exact hf.1
  have hr' : (after .push s).inp.rst = false := by rwa [after_push hr hv]
  have hv' : (after .push s).cfg.feVariant = .parallel := by rwa [after_push hr hv]
  rw [clock_bb s hr hv, transportCycle_bb, hf, bbNext_pop_of_nonempty hne, after_pop hr' hv', after_push hr hv,
    readPort_bb, if_pos (bbrFire_writePort hf), writePort_bb]

theorem clock_bb_of_hold (hn : wcoValid s = false) (hf : bbrFire s = false) : (clock s).bb = s.bb := by
  rw [clock_bb s hr hv, transportCycle_bb, hn, hf]
  rfl

/-! TransportFramer: POP, FLUSH and the frame words. -/

theorem clock_tf_of_pop (hf : bbrFire s = true) :
    (clock s).tf = { (after .pop s).tf with
      timer := if s.tf.level = 0 ∨ s.cfg.timerRestartOnWord = true then 0 else s.tf.timer + 1
      clock := s.tf.clock + 1 } := by
  obtain ⟨hfill, htrig⟩ := bbrReady_spec (Bool.and_eq_true_iff.mp hf).2
  rw [clock_tf s hr hv, transportCycle_tf, tfNext, tfPhase_fill hfill htrig, if_pos hf, after_pop hr hv, readPort,
    if_pos hf]
  rcases tfTimer_cases s.cfg true s.tf with ⟨hl, e⟩ | ⟨-, ht, -, e⟩ | ⟨hl, ht, e⟩ <;> rw [e]
  · simp [tfTick, tfAccept, hl]
  · simp [tfTick, tfAccept, ht]
  · simp_all [tfTick, tfAccept]

theorem clock_tf_of_flush (hfill : s.tf.state = .fill) (htrig : tfTrigger s.cfg s.tf = true) :
    (clock s).tf = { (after .flush s).tf with clock := s.tf.clock + 1 } := by
  rw [clock_tf s hr hv, transportCycle_tf, tfNext, tfPhase_flush hfill htrig, after_flush hr hv, flushIfDue,
    if_pos ⟨hfill, htrig⟩]
  rfl

theorem clock_tf_of_fill (hfill : s.tf.state = .fill) (htrig : tfTrigger s.cfg s.tf = false) (hf : bbrFire s = false) :
    (clock s).tf = { s.tf with
      timer := if s.tf.level = 0 then 0 else s.tf.timer + 1
      clock := s.tf.clock + 1 } := by
  rw [clock_tf s hr hv, transportCycle_tf, tfNext, tfPhase_fill hfill htrig, hf]
  by_cases hl : s.tf.level = 0 <;> simp [tfTimer, tfTick, hl]

theorem clock_tf_of_stall (hsend : s.tf.state ≠ .fill) (hf : hostFire s = false) :
    (clock s).tf = { s.tf with clock := s.tf.clock + 1 } := by
  rw [clock_tf s hr hv, transportCycle_tf, tfNext, tfPhase_send hsend, hf]
  rfl

/-- A host transfer in a sending state, the free-running counter counted besides (R237, R241 to R244). -/
theorem clock_tf_of_hostTransfer {st : TfState} (hst : s.tf.state = st) (hsend : st ≠ .fill) (hf : hostFire s = true) :
    (clock s).tf = { (hostTransfer st (hostData s) s).tf with clock := s.tf.clock + 1 } := by
  rw [clock_tf s hr hv, transportCycle_tf, tfNext, tfPhase_send (hst ▸ hsend), if_pos hf, hostTransfer,
    if_pos ⟨hst, hf, rfl⟩, tfTick, tfSent_clock]

end Transport

end Sys2Proof.Machine

namespace Sys2Proof.Proofs

open Sys2Proof.Machine

/-- Settles O60: the capture side in both variants, then the transport side, component by component. -/
theorem clockRunsTheStrobedOperations : Obligations.ClockRunsTheStrobedOperations := by
  refine ⟨fun s hr => ?capture, fun s hr hv => ?transport⟩
  case capture =>
    exact ⟨clock_ta_of_consume hr, clock_ta_of_clear hr, clock_ta_of_no_strobe hr,
      clock_el_of_write hr, clock_el_of_ack hr,
      clock_fe_of_overflow hr, clock_fe_of_event hr, clock_fe_of_data hr, clock_fe_of_control hr,
      fun _ _ => clock_fe_of_record hr, clock_el_of_no_strobe hr, clock_fe_of_none_selected hr,
      clock_fe_of_recFire hr, clock_fe_of_no_transfer hr⟩
  case transport =>
    refine ⟨clock_rpg_of_start hr hv, clock_rpg_of_no_start hr hv, clock_rpg_of_no_transfer hr hv, ?literal, ?push,
      clock_wc_of_hold hr hv, fun _ => clock_bb_of_push hr hv, clock_bb_of_pop hr hv,
      fun _ => clock_bb_of_push_and_pop hr hv, clock_bb_of_hold hr hv, clock_tf_of_pop hr hv,
      clock_tf_of_flush hr hv, clock_tf_of_fill hr hv, clock_tf_of_stall hr hv, ?length, ?timestamp, ?payload⟩
    case literal =>
      intro hval hsel
      refine ⟨clock_rpg_of_literal hr hv hval hsel, clock_muxSelQ_of_literal hr hv hval hsel, fun hf => ?_,
        clock_wc_of_literal_and_push hr hv hval hsel⟩
      rw [clock_wc_of_literal hr hv hval hsel, hf, wcDrain_false]
    case push =>
      intro hf
      obtain ⟨hvalid, hword⟩ := clock_holding_of_push hr hv hf
      exact ⟨hvalid, hword, clock_wc_of_push hr hv⟩
    case length =>
      intro hf hst
      rw [after_frameLength hr hv]
      exact clock_tf_of_hostTransfer hr hv hst (by decide) hf
    case timestamp =>
      intro hf hst
      rw [after_frameTimestamp hr hv]
      exact clock_tf_of_hostTransfer hr hv hst (by decide) hf
    case payload =>
      intro hf hst
      rw [after_framePayload hr hv]
      exact clock_tf_of_hostTransfer hr hv hst (by decide) hf

end Sys2Proof.Proofs

end

/-! # The invariant of the block: every step keeps it (R48)

Each component's next-state function keeps its share of the invariant (stated over the whole state with that one component
replaced); the instructions and the clock cycle are then assembled from these shares. -/

section

namespace Sys2Proof.Machine

/-! ### TimeAccumulator: R48 (a) -/

theorem taInv_taNext {s : State} (h : taInv s) (consume clear : Bool) :
    taInv { s with ta := taNext s.cfg consume clear s.ta } := by
  cases consume with
  | true => simp [taInv, taNext_consume]
  | false =>
    cases clear with
    | true => simp [taInv, taNext_clear]
    | false =>
      obtain ⟨-, e⟩ | ⟨-, hmax, e⟩ | ⟨hflag, -, e⟩ := taNext_tick s.cfg s.ta
      · simpa [taInv, e] using h
      · simp [taInv, e, hmax]
      · simp [taInv, e, hflag]

/-! ### FramingEncoder: R27, R48 (f), R99 and the shift register -/

/-- What a created record is: the fixed Overflow record, or one with the least `timeLen` (R98, R99). -/
abbrev recordMinimal (r : Record) : Prop :=
  (r.typ = .overflow → r.delta = taMax ∧ r.len = 3) ∧ (r.typ ≠ .overflow → r.len = encodedLength r.delta)

theorem recordMinimal_of_selected {s : State} {r : Record} (h : selectedRecord s = some r) : recordMinimal r := by
  obtain ⟨-, e⟩ | ⟨-, e⟩ | ⟨-, -, e⟩ | ⟨-, -, e⟩ | ⟨-, e⟩ := selectedRecord_cases s <;> rw [e] at h <;> cases h
  all_goals simp [recordMinimal]

/-- FramingEncoder's share of the invariant. -/
abbrev encoderInv (s : State) : Prop := variantInv s ∧ recordInv s ∧ shiftInv s

/-- Loading a record sets the shift register of the serial variant to its timestamp bytes (R156). -/
theorem encoderInv_feLoad {r : Record} (h : recordMinimal r) (s : State) :
    encoderInv { s with fe := feLoad s.cfg r s.fe } := by
  cases hv : s.cfg.feVariant with
  | parallel => exact ⟨by simp [variantInv, feLoad_parallel hv, hv], by rw [feLoad_parallel hv]; exact fun _ => h,
      by simp [shiftInv, feLoad_parallel hv]⟩
  | serial =>
    have hshift : (r.delta.extractLsb' 4 24).toNat = r.delta.toNat / 16 := by
      have := r.delta.isLt
      rw [BitVec.extractLsb'_toNat, Nat.shiftRight_eq_div_pow]
      omega
    exact ⟨by simp [variantInv, feLoad_serial hv, hv], by rw [feLoad_serial hv]; exact fun _ => h,
      by simp [shiftInv, feLoad_serial hv, - BitVec.extractLsb'_toNat, hshift]⟩

/-- Everything an accepted byte of the serial variant can do: the first timestamp byte comes, the next one comes, or none is
left (R157 to R159). -/
theorem feSerialAdvance_cases {fe : FramingEncoder}
    (h : fe.state = .header ∨ fe.state = .timestamp ∨ fe.state = .payload) :
    (fe.state = .header ∧ fe.len ≠ 0 ∧ feSerialAdvance fe = { fe with state := .timestamp }) ∨
    (fe.state = .timestamp ∧ fe.rem ≠ 1 ∧
      feSerialAdvance fe = { fe with shift := fe.shift >>> 8, rem := fe.rem - 1 }) ∨
    (feSerialAdvance fe).state = .payload ∨ (feSerialAdvance fe).state = .idle := by
  obtain ⟨typ, delta, len, payload, state, shift, rem⟩ := fe
  rcases h with h | h | h <;> simp only at h <;> subst h
  · by_cases hl : len = 0#2 <;> by_cases ht : typ = .overflow <;> simp [feSerialAdvance, hl, ht]
  · by_cases hl : rem = 1#2 <;> by_cases ht : typ = .overflow <;> simp [feSerialAdvance, hl, ht]
  · simp [feSerialAdvance]

theorem FeState.eq_sending {st : FeState} (hi : st ≠ .idle) (he : st ≠ .emit) :
    st = .header ∨ st = .timestamp ∨ st = .payload := by
  cases st <;> simp_all

theorem variantInv_feSerialAdvance {s : State} (hv : s.cfg.feVariant = .serial)
    (hs : s.fe.state = .header ∨ s.fe.state = .timestamp ∨ s.fe.state = .payload) :
    variantInv { s with fe := feSerialAdvance s.fe } := by
  refine ⟨fun hp => by simp_all, fun _ => ?_⟩
  obtain ⟨-, -, e⟩ | ⟨ht, -, e⟩ | e | e := feSerialAdvance_cases hs
  · simp [e]
  · simp [e, ht]
  · simp [e]
  · simp [e]

theorem shiftInv_feSerialAdvance {s : State} (h : shiftInv s)
    (hs : s.fe.state = .header ∨ s.fe.state = .timestamp ∨ s.fe.state = .payload) :
    shiftInv { s with fe := feSerialAdvance s.fe } := by
  obtain ⟨hheader, htime⟩ := h
  obtain ⟨hh, hlen, e⟩ | ⟨ht, hrem, e⟩ | e | e := feSerialAdvance_cases hs
  · obtain ⟨hrem, hshift⟩ := hheader hh
    have hpos : 1 ≤ s.fe.len.toNat := Nat.one_le_iff_ne_zero.mpr fun e0 => hlen (BitVec.eq_of_toNat_eq e0)
    simp [shiftInv, e, hrem, hshift, hpos]
  · obtain ⟨hpos, hle, hshift⟩ := htime ht
    have hne : s.fe.rem.toNat ≠ 1 := fun e1 => hrem (BitVec.eq_of_toNat_eq e1)
    have hdec : (s.fe.rem - 1).toNat = s.fe.rem.toNat - 1 := by bv_omega
    have hpow : s.fe.len.toNat - (s.fe.rem.toNat - 1) = s.fe.len.toNat - s.fe.rem.toNat + 1 := by omega
    have hdrop : (s.fe.shift >>> 8).toNat = s.fe.delta.toNat / 16 / 256 ^ (s.fe.len.toNat - (s.fe.rem - 1).toNat) := by
      rw [hdec, hpow, Nat.pow_succ, ← Nat.div_div_eq_div_mul, ← hshift, BitVec.toNat_ushiftRight,
        Nat.shiftRight_eq_div_pow]
    rw [e]
    exact ⟨fun hh => by simp [ht] at hh, fun _ => ⟨by simp only; omega, by simp only; omega, hdrop⟩⟩
  · simp [shiftInv, e]
  · simp [shiftInv, e]

/-- FramingEncoder's cycle keeps its share of the invariant, in both variants. -/
theorem encoderInv_feNext {s : State} (h : encoderInv s) (sr rr : Bool) :
    encoderInv { s with fe := feNext s.cfg (selectedRecord s) sr rr s.fe } := by
  by_cases hi : s.fe.state = .idle
  · rw [feNext_idle hi]
    cases hsel : selectedRecord s with
    | none => exact h
    | some r => exact encoderInv_feLoad (recordMinimal_of_selected hsel) s
  · obtain ⟨hvar, hrec, hshift⟩ := h
    have hrec' : recordInv { s with fe := feNext s.cfg (selectedRecord s) sr rr s.fe } := by
      have hsame := feRecord_feNext hi s.cfg (selectedRecord s) sr rr
      simp only [feRecord, Record.mk.injEq] at hsame
      obtain ⟨htyp, hdelta, hlen, -⟩ := hsame
      intro _
      simpa only [htyp, hdelta, hlen] using hrec hi
    by_cases he : s.fe.state = .emit
    · rw [feNext_emit he] at hrec' ⊢
      cases rr with
      | false => exact ⟨hvar, hrec', hshift⟩
      | true => simp [encoderInv, variantInv, recordInv, shiftInv]
    · have hsend := FeState.eq_sending hi he
      have hv : s.cfg.feVariant = .serial := by
        cases hv : s.cfg.feVariant with
        | serial => rfl
        | parallel => exact absurd (hvar.1 hv) (by simp [hi, he])
      rw [feNext_serial hsend] at hrec' ⊢
      cases sr with
      | false => exact ⟨hvar, hrec', hshift⟩
      | true => exact ⟨variantInv_feSerialAdvance hv hsend, hrec', shiftInv_feSerialAdvance hshift hsend⟩

/-! ### ResyncPatternGenerator: R48 (e) -/

theorem rpgInv_rpgNext {s : State} (h : rpgInv s) (start fire : Bool) :
    rpgInv { s with rpg := rpgNext s.cfg start fire s.rpg } := by
  obtain ⟨-, -, hc, e⟩ | ⟨-, -, e⟩ | ⟨-, -, -, e⟩ | ⟨-, -, hne, e⟩ | ⟨-, -, e⟩ := rpgNext_cases s.cfg start fire s.rpg
  · simpa [rpgInv, e] using hc
  · simpa [rpgInv, e] using h
  · simp [rpgInv, e]
  · have : s.rpg.repeats - 1 ≠ 0 := fun e0 => hne (by bv_omega)
    simpa [rpgInv, e] using this
  · simpa [rpgInv, e] using h

end Sys2Proof.Machine
end

section

namespace Sys2Proof.Machine

/-! ### WidthConverter: R48 (b), (c) -/

theorem toNat_pack_lt (w : Nat) (bs : List Byte) : (pack w bs).toNat < 256 ^ bs.length := by
  rw [pack, BitVec.toNat_ofNat]
  exact lt_of_le_of_lt (Nat.mod_le _ _) (packNat_lt bs)

theorem length_wcOnHand (slot : Slot) (l : BitVec 2) (wc : WidthConverter) :
    (wcOnHand slot l wc).length = wc.remain.toNat + recordLength l := by
  simp [wcOnHand]

theorem carryInv_wcTake {s : State} (h : carryInv s) (slot : Slot) (l : BitVec 2) :
    carryInv { s with wc := wcTake slot l s.wc } := by
  have hlen := length_wcOnHand slot l s.wc
  obtain ⟨hn, hlt, e⟩ | ⟨hn, hge, hlt, -, e⟩ | ⟨-, -, -, e⟩ | ⟨-, -, e⟩ | ⟨-, -, e⟩ := wcTake_cases slot l s.wc
  · have hcarry := toNat_pack_lt 24 (wcOnHand slot l s.wc)
    have hrem : (BitVec.ofNat 2 (s.wc.remain.toNat + recordLength l)).toNat = s.wc.remain.toNat + recordLength l := by
      rw [BitVec.toNat_ofNat]; omega
    rw [e]
    exact ⟨by rw [hlen] at hcarry; simpa only [hrem] using hcarry, fun hx => by simp [hn] at hx⟩
  · have hcarry := toNat_pack_lt 24 ((wcOnHand slot l s.wc).drop 4)
    have hrem : (BitVec.ofNat 2 (s.wc.remain.toNat + recordLength l - 4)).toNat =
        s.wc.remain.toNat + recordLength l - 4 := by
      rw [BitVec.toNat_ofNat]; omega
    rw [e]
    exact ⟨by rw [List.length_drop, hlen] at hcarry; simpa only [hrem] using hcarry, fun hx => by simp [hn] at hx⟩
  · simp [carryInv, e]
  · rw [e]; exact ⟨h.1, fun hx => by simp at hx⟩
  · rw [e]; exact h

/-- A drain touches the holding register only (R182). -/
theorem wcDrain_eq (fire : Bool) (wc : WidthConverter) :
    wcDrain fire wc = { wc with outValid := !fire && wc.outValid } := by
  cases fire <;> rfl

theorem carryInv_wcNext {s : State} (h : carryInv s) (valid : Bool) (slot : Slot) (l : BitVec 2) (fire : Bool) :
    carryInv { s with wc := wcNext valid slot l fire s.wc } := by
  rw [wcNext, wcDrain_eq]
  cases valid with
  | false => exact h
  | true => exact carryInv_wcTake h slot l

/-! ### The multiplexer's selection inside a two-word record (R188, R207) -/

/-- The source a selection names presents a record of five bytes. -/
abbrev fiveByteSource (s : State) (fromGenerator : Bool) : Prop :=
  (fromGenerator = true → s.rpg.state = .pattern ∧ s.cfg.resyncLen = 5) ∧
  (fromGenerator = false → s.fe.state = .emit ∧ s.fe.typ ≠ .overflow ∧ s.fe.len = 3)

/-- WidthConverter ends a cycle inside a record only if it did not accept it, and a record begun in `NORMAL` has five bytes
(R183, R187). -/
theorem wcReady_of_wcTake_sendExtra {slot : Slot} {l : BitVec 2} {wc : WidthConverter}
    (h : (wcTake slot l wc).state = .sendExtra) : wcReady l wc = false ∧ (wc.state = .sendExtra ∨ l = 3) := by
  rw [← Bool.not_eq_true, wcReady_iff]
  obtain ⟨hn, -, e⟩ | ⟨hn, -, -, -, e⟩ | ⟨hn, hge, -, -⟩ | ⟨-, -, e⟩ | ⟨hv, hx, e⟩ := wcTake_cases slot l wc
  · simp [e, hn] at h
  · simp [e, hn] at h
  · have hl : l = 3 := by
      apply BitVec.eq_of_toNat_eq
      change l.toNat = 3
      unfold recordLength at hge
      omega
    exact ⟨by simp [hn]; omega, .inr hl⟩
  · simp [e] at h
  · rw [e] at h
    exact ⟨by simp [h, hv], .inl h⟩

/-- The generator's length code names the literal's length (R201). -/
theorem recordLength_rpgLencode {s : State} (hc : configLegal s.cfg = true) :
    recordLength (rpgLencode s) = s.cfg.resyncLen.toNat := by
  simp only [configLegal, Bool.and_eq_true, decide_eq_true_eq] at hc
  rw [recordLength, rpgLencode, BitVec.toNat_ofNat]
  omega

/-- The length code 3 stands for five bytes, which only a record of a type with payload and three timestamp bytes has
(R94, R166). -/
theorem five_bytes_of_lencode {t : RecType} {len : BitVec 2} (h : BitVec.ofNat 2 (byteCount t len - 2) = 3) :
    t ≠ .overflow ∧ len = 3 := by
  have hmod : (byteCount t len - 2) % 4 = 3 := by simpa using congrArg BitVec.toNat h
  have hlt := len.isLt
  by_cases ht : t = .overflow <;> simp only [byteCount, ht, if_true, if_false] at hmod
  · omega
  · exact ⟨ht, BitVec.eq_of_toNat_eq (show len.toNat = 3 by omega)⟩

theorem fiveByteSource_of_lencode {s : State} (hc : configLegal s.cfg = true) (hv : wciValid s = true)
    (hl : wciLencode s = 3) : fiveByteSource s (muxSel s) := by
  cases hm : muxSel s with
  | true =>
    refine ⟨fun _ => ⟨by simpa [wciValid, hm, rpgValid, rpgBusy] using hv, ?_⟩, fun h => by simp at h⟩
    have h5 := recordLength_rpgLencode hc
    rw [wciLencode, if_pos hm] at hl
    rw [hl] at h5
    exact BitVec.eq_of_toNat_eq h5.symm
  | false =>
    have hrv : recValid s = true := by simpa [wciValid, hm] using hv
    refine ⟨fun h => by simp at h, fun _ => ⟨by simpa [recValid] using hrv, ?_⟩⟩
    exact five_bytes_of_lencode (by simpa [wciLencode, hm, recLencode, hrv] using hl)

/-- Inside a two-word record the source that the multiplexer holds is presented (R206, R207). -/
theorem presented_of_sendExtra {s : State} (h : midRecordInv s) (hx : s.wc.state = .sendExtra) :
    muxSel s = s.muxSelQ ∧ wciValid s = true := by
  have hm : muxSel s = s.muxSelQ := by simp [muxSel, wcMidRecord, hx]
  obtain ⟨hgen, henc⟩ := h hx
  refine ⟨hm, ?_⟩
  cases hq : s.muxSelQ with
  | true => simp [wciValid, hm, hq, rpgValid, rpgBusy, (hgen hq).1]
  | false => simp [wciValid, hm, hq, recValid, (henc hq).1]

/-- If WidthConverter ends the cycle inside the presented record, that record has five bytes and is not accepted yet. -/
theorem fiveByteSource_of_wcTake_sendExtra {s : State} (hc : configLegal s.cfg = true) (h : midRecordInv s)
    (hv : wciValid s = true) (hx : (wcTake (wciSlot s) (wciLencode s) s.wc).state = .sendExtra) :
    wciReady s = false ∧ fiveByteSource s (muxSel s) := by
  obtain ⟨hready, hold | hl⟩ := wcReady_of_wcTake_sendExtra hx
  · exact ⟨hready, (presented_of_sendExtra h hold).1 ▸ h hold⟩
  · exact ⟨hready, fiveByteSource_of_lencode hc hv hl⟩

/-! ### TransportFramer: R48 (d), the timer and the header -/

theorem tfTrigger_false_iff (c : Config) (tf : TransportFramer) :
    tfTrigger c tf = false ↔ tf.level < c.depth ∧ (tf.level = 0 ∨ tf.timer.toNat < c.idleTimeout.toNat) := by
  simp [tfTrigger]
  omega

/-- A flush has a batch to send (R232). -/
theorem level_pos_of_trigger {c : Config} (hc : configLegal c = true) {tf : TransportFramer}
    (h : tfTrigger c tf = true) : 0 < tf.level := by
  simp only [configLegal, Bool.and_eq_true, decide_eq_true_eq] at hc
  simp only [tfTrigger, Bool.or_eq_true, Bool.and_eq_true, decide_eq_true_eq] at h
  omega

theorem framerInv_tfFlush {s : State} (hc : configLegal s.cfg = true) (h : framerInv s)
    (ht : tfTrigger s.cfg s.tf = true) : framerInv { s with tf := tfFlush s.tf } := by
  obtain ⟨hlevel, htimer, -⟩ := h
  exact ⟨hlevel, htimer, fun hf => by simp [tfFlush] at hf, fun _ => rfl, fun _ => ⟨level_pos_of_trigger hc ht, rfl⟩⟩

theorem framerInv_tfSent {s : State} (h : framerInv s) : framerInv { s with tf := tfSent s.tf } := by
  obtain ⟨hlevel, htimer, hfill, hzero, hsend⟩ := h
  obtain ⟨-, e⟩ | ⟨hs, e⟩ | ⟨hs, e⟩ | ⟨-, -, e⟩ | ⟨hs, hne, e⟩ := tfSent_cases s.tf <;> rw [e]
  · exact ⟨hlevel, htimer, hfill, hzero, hsend⟩
  · exact ⟨hlevel, htimer, by simp, fun _ => hzero (.inl hs), fun _ => hsend (by simp [hs])⟩
  · exact ⟨hlevel, htimer, by simp, by simp, fun _ => hsend (by simp [hs])⟩
  · simp [framerInv]
  · obtain ⟨hlt, hlen⟩ := hsend (by simp [hs])
    exact ⟨hlevel, htimer, by simp [hs], by simp [hs], fun _ => ⟨by simp only; omega, hlen⟩⟩

/-- The timer never passes the timeout: at the timeout a flush is due instead (R232, R235). -/
theorem tfTimer_timer_le {c : Config} {tf : TransportFramer} (ht : tfTrigger c tf = false) (fire : Bool) :
    (tfTimer c fire tf).timer.toNat ≤ c.idleTimeout.toNat := by
  obtain ⟨-, hidle⟩ := (tfTrigger_false_iff c tf).mp ht
  obtain ⟨-, e⟩ | ⟨-, -, -, e⟩ | ⟨hl, -, e⟩ := tfTimer_cases c fire tf <;> rw [e]
  · simp
  · simp
  · have := c.idleTimeout.isLt
    have hlt := hidle.resolve_left hl
    simp only [BitVec.toNat_add]
    change (_ + 1) % _ ≤ _
    omega

/-- The idle timer's rule writes the timer only. -/
theorem tfTimer_eq (c : Config) (fire : Bool) (tf : TransportFramer) :
    tfTimer c fire tf = { tf with timer := (tfTimer c fire tf).timer } := by
  obtain ⟨-, e⟩ | ⟨-, -, -, e⟩ | ⟨-, -, e⟩ := tfTimer_cases c fire tf <;> rw [e]

/-- Accepting a word with no flush due, whatever the timer becomes within its bound (R234, R235). -/
theorem framerInv_tfAccept {s : State} (h : framerInv s) (hfill : s.tf.state = .fill)
    (ht : tfTrigger s.cfg s.tf = false) (w : Word) {timer : BitVec 32} (hle : timer.toNat ≤ s.cfg.idleTimeout.toNat) :
    framerInv { s with tf := { tfAccept w s.tf with timer := timer } } := by
  obtain ⟨-, -, hidle, -⟩ := h
  exact ⟨level_lt_of_no_trigger ht, hle, fun _ => ⟨(hidle hfill).1, fun h0 => by simp [tfAccept] at h0⟩,
    by simp [tfAccept, hfill], by simp [tfAccept, hfill]⟩

theorem framerInv_tfTimer {s : State} (h : framerInv s) (hfill : s.tf.state = .fill)
    (ht : tfTrigger s.cfg s.tf = false) (fire : Bool) : framerInv { s with tf := tfTimer s.cfg fire s.tf } := by
  obtain ⟨hlevel, -, hidle, -⟩ := h
  have hzero : s.tf.level = 0 → (tfTimer s.cfg fire s.tf).timer = 0 := fun h0 => by simp [tfTimer, h0]
  rw [tfTimer_eq]
  exact ⟨hlevel, tfTimer_timer_le ht fire, fun _ => ⟨(hidle hfill).1, hzero⟩, by simp [hfill], by simp [hfill]⟩

theorem framerInv_tfNext {s : State} (hc : configLegal s.cfg = true) (h : framerInv s) (wf : Bool) (w : Word)
    (hf : Bool) : framerInv { s with tf := tfNext s.cfg wf w hf s.tf } := by
  change framerInv { s with tf := tfPhase s.cfg wf w hf s.tf }
  obtain ⟨-, ht, e⟩ | ⟨hfill, ht, -, e⟩ | ⟨hfill, ht, -, e⟩ | ⟨-, -, e⟩ | ⟨-, -, e⟩ :=
    tfPhase_cases s.cfg wf w hf s.tf <;> rw [e]
  · exact framerInv_tfFlush hc h ht
  · rw [tfTimer_eq]
    exact framerInv_tfAccept h hfill ht w (tfTimer_timer_le ht true)
  · exact framerInv_tfTimer h hfill ht false
  · exact framerInv_tfSent h
  · exact h

end Sys2Proof.Machine
end

section

namespace Sys2Proof.Machine

/-! ### The invariant under the instructions -/

theorem inv_resetWith {c : Config} (hc : configLegal c = true) : Inv (State.resetWith c) :=
  inv_intro
    ⟨hc, resetWith_memory_wf c, by simp [taInv, State.resetWith], by simp [variantInv, State.resetWith],
      by simp [recordInv, State.resetWith], by simp [shiftInv, State.resetWith]⟩
    ⟨by simp [rpgInv, State.resetWith], by simp [carryInv, State.resetWith], by simp [midRecordInv, State.resetWith],
      by simp [framerInv, State.resetWith]⟩

/-- The ports, the environment's list and the issue slot have no part in the invariant. -/
theorem inv_resetRegisters {s : State} (hc : configLegal s.cfg = true) : Inv (resetRegisters s) :=
  inv_resetWith hc

theorem inv_clearIssue {s : State} (h : Inv s) : Inv (clearIssue s) := h

theorem inv_advanceInputs {s : State} (h : Inv s) : Inv (advanceInputs s) := by
  unfold advanceInputs
  split <;> exact h

/-- An update of TimeAccumulator and EventLatch. -/
theorem inv_of_capture {s : State} (h : Inv s) {ta : TimeAccumulator} (hta : taInv { s with ta := ta })
    (el : EventLatch) : Inv { s with ta := ta, el := el } := by
  obtain ⟨hc, hmem, -, hvar, hrec, hshift, hrest⟩ := h
  exact ⟨hc, hmem, hta, hvar, hrec, hshift, hrest⟩

/-- An update of the queue and of TransportFramer. -/
theorem inv_of_storage {s : State} (h : Inv s) {bb : BurstBuffer} {tf : TransportFramer}
    (hmem : Memory.wf { s with bb := bb, tf := tf } = true) (htf : framerInv { s with tf := tf }) :
    Inv { s with bb := bb, tf := tf } := by
  obtain ⟨hc, -, hta, hvar, hrec, hshift, hrpg, hcarry, hmid, -⟩ := h
  exact ⟨hc, hmem, hta, hvar, hrec, hshift, hrpg, hcarry, hmid, htf⟩

theorem onPipeline_cases (s t : State) : onPipeline s t = t ∨ onPipeline s t = s := by
  unfold onPipeline
  split
  · exact .inl rfl
  · exact .inr rfl

theorem inv_onPipeline {s t : State} (hs : Inv s) (ht : Inv t) : Inv (onPipeline s t) := by
  obtain e | e := onPipeline_cases s t <;> rw [e]
  · exact ht
  · exact hs

/-- A selection happens in `IDLE`, where no record of the encoder is half taken (R151, R207). -/
theorem inv_select {s : State} (h : Inv s) : Inv (select s) := by
  obtain ⟨-, e⟩ | ⟨r, hsel, e⟩ := select_cases s
  · rwa [e]
  · have hidle := idle_of_selectedRecord hsel
    obtain ⟨hc, hmem, hta, hvar, hrec, hshift, hrpg, hcarry, hmid, htf⟩ := h
    obtain ⟨hvar', hrec', hshift'⟩ := encoderInv_feLoad (recordMinimal_of_selected hsel) s
    rw [e]
    refine ⟨hc, hmem, ?_, hvar', hrec', hshift', hrpg, hcarry, fun hx => ?_, htf⟩
    · cases taConsume s with
      | true => simp [taInv]
      | false => exact hta
    · obtain ⟨hgen, henc⟩ := hmid hx
      exact ⟨hgen, fun hq => absurd (henc hq).1 (by simp [hidle])⟩

theorem inv_selectIf {s : State} (h : Inv s) (b : Bool) : Inv (selectIf b s) := by
  obtain ⟨-, e⟩ | ⟨-, e⟩ := selectIf_cases b s <;> rw [e]
  · exact inv_select h
  · exact h

theorem inv_selectRecord {s : State} (h : Inv s) (r : Record) : Inv (selectRecord r s) := by
  obtain ⟨-, e⟩ | ⟨-, e⟩ := selectRecord_cases r s <;> rw [e]
  · exact inv_select h
  · exact h

theorem inv_start {s : State} (h : Inv s) : Inv { s with rpg := rpgNext s.cfg true false s.rpg } := by
  obtain ⟨hc, hmem, hta, hvar, hrec, hshift, hrpg, hcarry, hmid, htf⟩ := h
  refine ⟨hc, hmem, hta, hvar, hrec, hshift, rpgInv_rpgNext hrpg true false, hcarry, fun hx => ?_, htf⟩
  obtain ⟨hgen, henc⟩ := hmid hx
  refine ⟨fun hq => ?_, henc⟩
  obtain ⟨hp, h5⟩ := hgen hq
  exact ⟨by simp [rpgNext, hp], h5⟩

/-- While no repetition is accepted a burst goes on (R203). -/
theorem rpgNext_pattern_of_no_fire {rpg : ResyncGenerator} (h : rpg.state = .pattern) (c : Config) (start : Bool) :
    rpgNext c start false rpg = rpg := by
  simp [rpgNext, h]

theorem inv_presentLiteral {s : State} (h : Inv s) : Inv (presentLiteral s) := by
  obtain ⟨hm, hv, e⟩ | ⟨-, e⟩ := presentLiteral_cases s
  · obtain ⟨hc, hmem, hta, hvar, hrec, hshift, hrpg, hcarry, hmid, htf⟩ := h
    rw [e]
    refine ⟨hc, hmem, hta, hvar, hrec, hshift, rpgInv_rpgNext hrpg false (rpgFire s),
      carryInv_wcTake hcarry _ _, fun hx => ?_, htf⟩
    have hval : wciValid s = true := by simp [wciValid, hm, hv]
    have hx' : (wcTake (wciSlot s) (wciLencode s) s.wc).state = .sendExtra := by
      simpa [wciSlot, wciLencode, hm, rpgSlot] using hx
    obtain ⟨hready, hgen, -⟩ := fiveByteSource_of_wcTake_sendExtra hc hmid hval hx'
    obtain ⟨hp, h5⟩ := hgen hm
    have hfire : rpgFire s = false := by simp [rpgFire, rpgReady, hready]
    exact ⟨fun _ => ⟨by rw [hfire, rpgNext_pattern_of_no_fire hp]; exact hp, h5⟩, fun hq => by simp at hq⟩
  · rwa [e]

theorem inv_writePort {s : State} (h : Inv s) : Inv (writePort s) := by
  obtain ⟨hc, hmem, hta, hvar, hrec, hshift, hrpg, hcarry, hmid, htf⟩ := h
  have hmem' := writePort_memory_wf hmem
  obtain ⟨-, e⟩ | ⟨-, -, e⟩ | ⟨-, -, e⟩ := writePort_cases s <;> rw [e] at hmem' ⊢ <;>
    exact ⟨hc, hmem', hta, hvar, hrec, hshift, hrpg, hcarry, hmid, htf⟩

theorem inv_readPort {s : State} (h : Inv s) : Inv (readPort s) := by
  obtain ⟨hc, hmem, -, -, -, -, -, -, -, htf⟩ := id h
  obtain ⟨-, hold, -⟩ := id htf
  have hmem' := readPort_memory_wf hc hmem
  obtain ⟨hf, e⟩ | ⟨-, e⟩ := readPort_cases s <;> rw [e] at hmem' ⊢
  · obtain ⟨hfill, ht⟩ := bbrReady_spec (Bool.and_eq_true_iff.mp hf).2
    have htimer : (timerOnWord s.cfg s.tf).toNat ≤ s.cfg.idleTimeout.toNat := by
      unfold timerOnWord
      split
      · simp
      · exact hold
    exact inv_of_storage h hmem' (framerInv_tfAccept htf hfill ht _ htimer)
  · exact h

theorem inv_flushIfDue {s : State} (h : Inv s) : Inv (flushIfDue s) := by
  obtain ⟨hc, hmem, -, -, -, -, -, -, -, htf⟩ := id h
  have hmem' := flushIfDue_memory_wf hmem
  obtain ⟨-, ht, e⟩ | ⟨-, e⟩ := flushIfDue_cases s <;> rw [e] at hmem' ⊢
  · exact inv_of_storage h hmem' (framerInv_tfFlush hc htf ht)
  · exact h

theorem inv_hostTransfer {s : State} (h : Inv s) (st : TfState) (w : Word) : Inv (hostTransfer st w s) := by
  obtain ⟨-, hmem, -, -, -, -, -, -, -, htf⟩ := id h
  have hmem' := hostTransfer_memory_wf st w hmem
  obtain ⟨-, -, -, e⟩ | ⟨-, e⟩ := hostTransfer_cases st w s <;> rw [e] at hmem' ⊢
  · exact inv_of_storage h hmem' (framerInv_tfSent htf)
  · exact h

theorem inv_effect {s : State} (h : Inv s) (i : Instr) : Inv (effect i s) := by
  obtain ⟨hc, -, hta, -⟩ := id h
  cases hrec : recordOf i with
  | some r => rw [effect_record hrec]; exact inv_selectRecord h r
  | none =>
    cases i with
    | rsy => exact inv_onPipeline h (inv_presentLiteral h)
    | frameLength w => exact inv_onPipeline h (inv_hostTransfer h .sendLength w)
    | frameTimestamp w => exact inv_onPipeline h (inv_hostTransfer h .sendTimestamp w)
    | framePayload w => exact inv_onPipeline h (inv_hostTransfer h .sendBody w)
    | tick => exact inv_of_capture h (taInv_taNext hta false false) s.el
    | consume => exact inv_of_capture h (taInv_taNext hta true false) s.el
    | clearOverflow => exact inv_of_capture h (taInv_taNext hta false true) s.el
    | write => exact inv_of_capture h hta _
    | ack => exact inv_of_capture h hta _
    | selectOverflow => exact inv_selectIf h _
    | selectEvent => exact inv_selectIf h _
    | selectData => exact inv_selectIf h _
    | selectControl => exact inv_selectIf h _
    | start => exact inv_onPipeline h (inv_start h)
    | push => exact inv_onPipeline h (inv_writePort h)
    | pop => exact inv_onPipeline h (inv_readPort h)
    | flush => exact inv_onPipeline h (inv_flushIfDue h)
    | reset => exact inv_resetRegisters hc
    | _ => cases hrec

/-- The clock edge of an instruction keeps the invariant, with and without reset (R115, R280). -/
theorem inv_exec {s t : State} (h : Inv s) {i : Instr} (hexec : exec i s = .next t) : Inv t := by
  cases hr : s.inp.rst with
  | true =>
    rw [exec_reset hr, next_inj] at hexec
    exact hexec ▸ inv_resetRegisters h.1
  | false =>
    rw [exec_run hr, next_inj] at hexec
    exact hexec ▸ inv_effect h i

/-! ### The invariant under a clock cycle -/

/-- The storage's form follows from the framer's bounds and the two components' cycles. -/
theorem transportCycle_memory_wf {s : State} (h : Inv s) : Memory.wf (transportCycle s (captureCycle s s)) = true := by
  obtain ⟨hc, hmem, -, -, -, -, -, -, -, htf⟩ := h
  obtain ⟨hqueue, hacc, -⟩ := (memory_wf_iff s).mp hmem
  have hready : wcoReady s = decide (s.bb.queue.length < s.cfg.bbDepth) := by
    simp only [wcoReady, bbFull, ← decide_not, not_le]
  rw [memory_wf_iff, transportCycle_bb, transportCycle_tf, hready, tfNext_acc_length]
  have hlevel := (framerInv_tfNext hc htf (bbrFire s) (bbrWord s) (hostFire s)).1
  exact ⟨bbNext_length _ _ _ _ _ hqueue, hacc, le_trans hlevel (configLegal_depth hc)⟩

/-- A record half taken at the end of a cycle stands at the same source in the next: it was not accepted. -/
theorem midRecordInv_transportCycle {s : State} (hc : configLegal s.cfg = true) (h : midRecordInv s) :
    midRecordInv (transportCycle s (captureCycle s s)) := by
  intro hx
  rw [transportCycle_wc, wcNext, wcDrain_eq] at hx
  have hval : wciValid s = true := by
    by_contra hn
    rw [if_neg hn] at hx
    exact hn (presented_of_sendExtra h hx).2
  rw [if_pos hval] at hx
  obtain ⟨hready, hgen, henc⟩ := fiveByteSource_of_wcTake_sendExtra hc h hval hx
  simp only [transportCycle_muxSelQ, transportCycle_rpg, transportCycle_cfg, transportCycle_fe, captureCycle_cfg,
    captureCycle_fe]
  refine ⟨fun hm => ?_, fun hm => ?_⟩
  · obtain ⟨hp, h5⟩ := hgen hm
    have hfire : rpgFire s = false := by simp [rpgFire, rpgReady, hready]
    rw [hfire, rpgNext_pattern_of_no_fire hp]
    exact ⟨hp, h5⟩
  · obtain ⟨hemit, hrec⟩ := henc hm
    have hwait : recReady s = false := by simp [recReady, hready]
    rw [feNext_emit hemit, hwait]
    exact ⟨hemit, hrec⟩

theorem inv_cycleRegisters {s : State} (h : Inv s) : Inv (cycleRegisters s) := by
  have hmem' := transportCycle_memory_wf h
  obtain ⟨hc, hmem, hta, hvar, hrec, hshift, hrpg, hcarry, hmid, htf⟩ := h
  have hta' := taInv_taNext hta (taConsume s) (taClear s)
  obtain ⟨hvar', hrec', hshift'⟩ := encoderInv_feNext ⟨hvar, hrec, hshift⟩ s.inp.serReady (recReady s)
  cases hv : s.cfg.feVariant with
  | parallel =>
    rw [cycleRegisters, if_pos (by simp [pipelineBuilt, hv])]
    exact ⟨hc, hmem', hta', hvar', hrec', hshift', rpgInv_rpgNext hrpg _ _, carryInv_wcNext hcarry _ _ _ _,
      midRecordInv_transportCycle hc hmid, framerInv_tfNext hc htf _ _ _⟩
  | serial =>
    rw [cycleRegisters, if_neg (by simp [pipelineBuilt, hv])]
    refine ⟨hc, hmem, hta', hvar', hrec', hshift', hrpg, hcarry, fun hx => ?_, htf⟩
    obtain ⟨hgen, henc⟩ := hmid hx
    exact ⟨hgen, fun hq => absurd (henc hq).1 (hvar.2 hv)⟩

theorem inv_clock {s : State} (h : Inv s) : Inv (clock s) := by
  refine inv_advanceInputs ?_
  cases s.inp.rst with
  | true => exact inv_resetRegisters h.1
  | false => exact inv_cycleRegisters h

end Sys2Proof.Machine

namespace Sys2Proof.Proofs

open Sys2Proof.Machine

/-- Settles O56, by what a step can do: a clock cycle keeps the invariant, and so does the edge of every instruction. -/
theorem stepKeepsTheInvariant : Obligations.StepKeepsTheInvariant := by
  intro s t h hstep
  obtain ⟨-, ⟨-, rfl⟩ | ⟨p, i, rest, -, -, hexec⟩⟩ := step_cases hstep
  · exact inv_clock h
  · exact inv_exec (inv_clearIssue h) hexec

/-- Settles O57. -/
theorem resetStateHasTheInvariant : Obligations.ResetStateHasTheInvariant :=
  ⟨fun _ hc => inv_resetWith hc, inv_resetWith (by decide)⟩

end Sys2Proof.Proofs

end

/-! # What a stage presents: held until it is accepted, and the encoder's records in their order (R27, R61) -/

section

namespace Sys2Proof.Machine

/-! ### The record of the encoder, from cycle to cycle -/

theorem noReset_inp {s : State} (h : noReset s) : s.inp.rst = false := by
  simpa using h.1

/-- A property of all ports to come stays one in the next cycle, whose ports are the next of the list or idle. -/
theorem always_clock {p : Inputs → Bool} {s : State} (h : always p s) : always p (clock s) := by
  obtain ⟨-, hidle, hstim⟩ := h
  unfold always
  rw [clock_inp, clock_stim]
  cases hs : s.stim with
  | nil => exact ⟨hidle, hidle, by simp⟩
  | cons i rest =>
    rw [hs] at hstim
    exact ⟨hstim i (by simp), hidle, fun j hj => hstim j (by simp_all)⟩

/-- One cycle of the parallel variant: a record is in flight or created, and is then transferred or in flight. -/
theorem recordInFlight_clock {s : State} (h : variantInv s) (hv : s.cfg.feVariant = .parallel) (hr : s.inp.rst = false) :
    recordInFlight s ++ createdRecord s = transferredRecord s ++ recordInFlight (clock s) := by
  rcases h.1 hv with hi | he
  · have htrans : transferredRecord s = [] := by simp [transferredRecord, recFire, recValid, hi]
    rw [htrans, recordInFlight, if_pos hi, createdRecord, recordInFlight, clock_fe s hr, captureCycle_fe, feNext_idle hi]
    cases hsel : selectedRecord s with
    | none => simp [hi]
    | some r => simp [feLoad_parallel hv, feRecord]
  · have hne : s.fe.state ≠ .idle := by simp [he]
    have hnone : createdRecord s = [] := by simp [createdRecord, selectedRecord, arbiter, hne]
    rw [hnone, recordInFlight, if_neg hne, transferredRecord, recordInFlight]
    cases hf : recFire s with
    | true => simp [clock_fe_of_recFire hr hf]
    | false =>
      have hser : serFire s = false := by simp [serFire, serValid, he]
      simp [clock_fe_of_no_transfer hr hne hf hser, hne]

/-! ### What a stage presents -/

/-- The encoder presents a record to the multiplexer or a byte on the serial port, never both (R161, R167). -/
theorem serValid_of_recValid {s : State} (h : recValid s = true) : serValid s = false := by
  have he : s.fe.state = .emit := by simpa [recValid] using h
  simp [serValid, he]

section Held

variable {s : State} (hr : s.inp.rst = false)

include hr

theorem record_held (hv : recValid s = true) (hf : recFire s = false) :
    recValid (clock s) = true ∧ recSlot (clock s) = recSlot s ∧ recLencode (clock s) = recLencode s := by
  have hne : s.fe.state ≠ .idle := fun hi => by simp [recValid, hi] at hv
  have hfe := clock_fe_of_no_transfer hr hne hf (by simp [serFire, serValid_of_recValid hv])
  have hval : recValid (clock s) = recValid s := by rw [recValid, recValid, hfe]
  exact ⟨hval.trans hv, by rw [recSlot, recSlot, hval, hfe], by rw [recLencode, recLencode, hval, hfe]⟩

theorem serial_byte_held (hv : serValid s = true) (hf : serFire s = false) :
    serData (clock s) = serData s ∧ serValid (clock s) = !(clock s).inp.rst := by
  have hne : s.fe.state ≠ .idle := fun hi => by simp [serValid, hi] at hv
  have hrec : recValid s = false := by
    rw [← Bool.not_eq_true]
    exact fun h => by simp [serValid_of_recValid h] at hv
  have hfe := clock_fe_of_no_transfer hr hne (by simp [recFire, hrec]) hf
  refine ⟨by rw [serData, serData, hfe], ?_⟩
  rw [serValid, hr] at hv
  rw [serValid, hfe, (Bool.and_eq_true_iff.mp hv).2, Bool.and_true]

theorem literal_held (hv : rpgValid s = true) (hf : rpgFire s = false) :
    rpgValid (clock s) = true ∧ rpgSlot (clock s) = rpgSlot s ∧ rpgLencode (clock s) = rpgLencode s := by
  have hrpg : (clock s).rpg = s.rpg := by
    cases hvar : s.cfg.feVariant with
    | serial => exact clock_rpg_serial s hr hvar
    | parallel => exact clock_rpg_of_no_transfer hr hvar (by simpa [rpgValid, rpgBusy] using hv) hf
  exact ⟨by rw [rpgValid, rpgBusy, hrpg]; exact hv, by rw [rpgSlot, rpgSlot, clock_cfg],
    by rw [rpgLencode, rpgLencode, clock_cfg]⟩

/-- A full holding register that does not drain keeps its word: the input side waits for it (R185, R187). -/
theorem holding_word_held (hv : wcoValid s = true) (hf : wcoFire s = false) :
    wcoValid (clock s) = true ∧ wcoWord (clock s) = wcoWord s := by
  rw [wcoValid, wcoWord, wcoWord]
  cases hvar : s.cfg.feVariant with
  | serial => rw [clock_wc_serial s hr hvar]; exact ⟨hv, rfl⟩
  | parallel =>
    rw [clock_wc s hr hvar, transportCycle_wc, hf, wcNext, wcDrain_false]
    cases wciValid s with
    | false => exact ⟨hv, rfl⟩
    | true => exact wcTake_of_outValid hv _ _

/-- The head of the queue stays where it is while words join behind it (R219). -/
theorem queue_head_held (hv : bbrValid s = true) (hf : bbrFire s = false) :
    bbrValid (clock s) = true ∧ bbrWord (clock s) = bbrWord s := by
  obtain ⟨tail, hq⟩ : ∃ tail, (clock s).bb.queue = s.bb.queue ++ tail := by
    cases hvar : s.cfg.feVariant with
    | serial => exact ⟨[], by rw [clock_bb_serial s hr hvar, List.append_nil]⟩
    | parallel => rw [clock_bb s hr hvar, transportCycle_bb, hf, bbNext_queue]; exact ⟨_, rfl⟩
  rw [bbrValid, bbEmpty] at hv
  rw [bbrValid, bbEmpty, bbrWord, bbrWord, hq]
  cases hqueue : s.bb.queue with
  | nil => simp [hqueue] at hv
  | cons w ws => simp

/-- A host word that is not transferred is held: TransportFramer only counts its clock (R237, R250). -/
theorem host_word_held (hv : hostValid s = true) (hf : hostFire s = false) :
    hostData (clock s) = hostData s ∧ hostValid (clock s) = (!(clock s).inp.rst) ∧
      hostLast (clock s) = (!(clock s).inp.rst && hostLast s) := by
  have hsend : (s.tf.state != .fill) = true := by simpa [hostValid, hr] using hv
  obtain ⟨k, htf⟩ : ∃ k, (clock s).tf = { s.tf with clock := k } := by
    cases hvar : s.cfg.feVariant with
    | serial => exact ⟨s.tf.clock, clock_tf_serial s hr hvar⟩
    | parallel => exact ⟨_, clock_tf_of_stall hr hvar (by simpa using hsend) hf⟩
  exact ⟨by simp only [hostData, htf, accRead], by simp only [hostValid, htf, hsend, Bool.and_true],
    by simp only [hostLast, htf, tfLastWord, hr, Bool.not_false, Bool.true_and, Bool.and_assoc]⟩

end Held

end Sys2Proof.Machine

namespace Sys2Proof.Proofs

open Sys2Proof.Machine

/-- Settles O27, by induction on the number of cycles: one cycle keeps the order, and the invariant holds in the next. -/
theorem encoderKeepsRecordOrder : Obligations.EncoderKeepsRecordOrder := by
  intro n
  induction n with
  | zero => intro s _ _ _; simp [collect, clockRun]
  | succ n ih =>
    intro s h hv hr
    obtain ⟨-, -, -, hvar, -⟩ := id h
    have hcycle := recordInFlight_clock hvar hv (noReset_inp hr)
    have hrest := ih (clock s) (inv_clock h) (by rwa [clock_cfg]) (always_clock hr)
    calc recordInFlight s ++ collect createdRecord (n + 1) s
        = (recordInFlight s ++ createdRecord s) ++ collect createdRecord n (clock s) := by
          rw [collect, List.append_assoc]
      _ = transferredRecord s ++ (recordInFlight (clock s) ++ collect createdRecord n (clock s)) := by
          rw [hcycle, List.append_assoc]
      _ = collect transferredRecord (n + 1) s ++ recordInFlight (clockRun (n + 1) s) := by
          rw [hrest, collect, clockRun, List.append_assoc]

/-- Settles O28, port by port. -/
theorem presentedDataIsHeldUntilAccepted : Obligations.PresentedDataIsHeldUntilAccepted := fun _ _ hr =>
  ⟨record_held hr, literal_held hr, holding_word_held hr, queue_head_held hr, serial_byte_held hr, host_word_held hr⟩

end Sys2Proof.Proofs

end

/-! # What an operation writes and what it leaves (R22, R60, R115), and the values of a reset (R47, R280) -/

section

namespace Sys2Proof.Machine

/-! ### The effect of an instruction as an equation, where it is one component or one shared operation -/

theorem effect_tick (s : State) : effect .tick s = { s with ta := taNext s.cfg false false s.ta } := rfl

theorem effect_consume (s : State) : effect .consume s = { s with ta := taNext s.cfg true false s.ta } := rfl

theorem effect_clearOverflow (s : State) :
    effect .clearOverflow s = { s with ta := taNext s.cfg false true s.ta } := rfl

theorem effect_write (s : State) : effect .write s = { s with el := elNext true s.inp.evCode false s.el } := rfl

theorem effect_ack (s : State) : effect .ack s = { s with el := elNext s.inp.evWrite s.inp.evCode true s.el } := rfl

theorem effect_selectOverflow (s : State) :
    effect .selectOverflow s = selectIf (arbiter s == .overflow) s := rfl

theorem effect_selectEvent (s : State) : effect .selectEvent s = selectIf (arbiter s == .event) s := rfl

theorem effect_selectData (s : State) :
    effect .selectData s = selectIf (arbiter s == .capture && !s.inp.capCtl) s := rfl

theorem effect_selectControl (s : State) :
    effect .selectControl s = selectIf (arbiter s == .capture && s.inp.capCtl) s := rfl

theorem effect_frameLength (w : Word) (s : State) :
    effect (.frameLength w) s = onPipeline s (hostTransfer .sendLength w s) := rfl

theorem effect_frameTimestamp (w : Word) (s : State) :
    effect (.frameTimestamp w) s = onPipeline s (hostTransfer .sendTimestamp w s) := rfl

theorem effect_framePayload (w : Word) (s : State) :
    effect (.framePayload w) s = onPipeline s (hostTransfer .sendBody w s) := rfl

/-! ### The components each operation of a stage after the encoder writes, in both variants -/

theorem effect_start_writes (s : State) : ∃ rpg, effect .start s = { s with rpg := rpg } := by
  obtain e | e := onPipeline_cases s { s with rpg := rpgNext s.cfg true false s.rpg }
  · exact ⟨_, e⟩
  · exact ⟨_, e⟩

theorem effect_rsy_writes (s : State) :
    ∃ rpg q wc, effect .rsy s = { s with rpg := rpg, muxSelQ := q, wc := wc } := by
  obtain e | e := onPipeline_cases s (presentLiteral s)
  · obtain ⟨-, -, e'⟩ | ⟨-, e'⟩ := presentLiteral_cases s <;> exact ⟨_, _, _, e.trans e'⟩
  · exact ⟨_, _, _, e⟩

theorem effect_push_writes (s : State) : ∃ bb wc, effect .push s = { s with bb := bb, wc := wc } := by
  obtain e | e := onPipeline_cases s (writePort s)
  · exact ⟨_, _, e⟩
  · exact ⟨_, _, e⟩

theorem effect_pop_writes (s : State) : ∃ bb tf, effect .pop s = { s with bb := bb, tf := tf } := by
  obtain e | e := onPipeline_cases s (readPort s)
  · obtain ⟨-, e'⟩ | ⟨-, e'⟩ := readPort_cases s <;> exact ⟨_, _, e.trans e'⟩
  · exact ⟨_, _, e⟩

theorem effect_flush_writes (s : State) : ∃ tf, effect .flush s = { s with tf := tf } := by
  obtain e | e := onPipeline_cases s (flushIfDue s)
  · obtain ⟨-, -, e'⟩ | ⟨-, e'⟩ := flushIfDue_cases s <;> exact ⟨_, e.trans e'⟩
  · exact ⟨_, e⟩

/-- A frame word's transfer, whatever its position. -/
theorem hostTransfer_writes (st : TfState) (w : Word) (s : State) :
    ∃ tf, onPipeline s (hostTransfer st w s) = { s with tf := tf } := by
  obtain e | e := onPipeline_cases s (hostTransfer st w s)
  · obtain ⟨-, -, -, e'⟩ | ⟨-, e'⟩ := hostTransfer_cases st w s <;> exact ⟨_, e.trans e'⟩
  · exact ⟨_, e⟩

/-! ### The components a selection writes -/

/-- An Overflow record consumes nothing (R152). -/
theorem taConsume_of_overflow {s : State} (h : arbiter s = .overflow) : taConsume s = false := by
  obtain ⟨-, e⟩ | ⟨-, hflag, -⟩ | ⟨-, -, -, e⟩ | ⟨-, -, -, -, e⟩ | ⟨-, -, -, -, e⟩ := arbiter_cases s
  case inr.inl => simp [taConsume, hflag]
  all_goals rw [e] at h; cases h

/-- Only an Event record acknowledges the latch (R153, R171). -/
theorem elAck_of_not_event {s : State} (h : arbiter s ≠ .event) : elAck s = false := by
  obtain ⟨hi, -⟩ | ⟨-, hflag, -⟩ | ⟨-, -, -, e⟩ | ⟨-, -, hnew, -⟩ | ⟨-, -, hnew, -⟩ := arbiter_cases s
  · simp [elAck, hi]
  · simp [elAck, hflag]
  · exact absurd e h
  · simp [elAck, hnew]
  · simp [elAck, hnew]

/-- The arbiter's outcome can be read off the type of the record it creates. -/
theorem arbiter_of_typ {s : State} {r : Record} (h : selectedRecord s = some r) :
    (r.typ = .overflow → arbiter s = .overflow) ∧ (r.typ ≠ .event → arbiter s ≠ .event) := by
  obtain ⟨ha, e⟩ | ⟨ha, e⟩ | ⟨ha, -, e⟩ | ⟨ha, -, e⟩ | ⟨-, e⟩ := selectedRecord_cases s <;> rw [e] at h <;> cases h
  all_goals simp [ha]

theorem selectIf_writes (b : Bool) (s : State) :
    ∃ fe ta el, selectIf b s = { s with fe := fe, ta := ta, el := el } ∧
      ((b = true → arbiter s = .overflow) → ta = s.ta) ∧ ((b = true → arbiter s ≠ .event) → el = s.el) := by
  obtain ⟨hb, e⟩ | ⟨-, e⟩ := selectIf_cases b s
  · obtain ⟨-, e'⟩ | ⟨r, -, e'⟩ := select_cases s
    · exact ⟨_, _, _, e.trans e', fun _ => rfl, fun _ => rfl⟩
    · exact ⟨_, _, _, e.trans e', fun h => by simp [taConsume_of_overflow (h hb)],
        fun h => by simp [elAck_of_not_event (h hb)]⟩
  · exact ⟨_, _, _, e, fun _ => rfl, fun _ => rfl⟩

theorem selectRecord_writes (r : Record) (s : State) :
    ∃ fe ta el, selectRecord r s = { s with fe := fe, ta := ta, el := el } ∧
      (r.typ = .overflow → ta = s.ta) ∧ (r.typ ≠ .event → el = s.el) := by
  have hif : selectRecord r s = selectIf (decide (selectedRecord s = some r)) s := by simp [selectRecord, selectIf]
  obtain ⟨fe, ta, el, e, hta, hel⟩ := selectIf_writes (decide (selectedRecord s = some r)) s
  exact ⟨fe, ta, el, hif.trans e, fun ht => hta fun h => (arbiter_of_typ (of_decide_eq_true h)).1 ht,
    fun ht => hel fun h => (arbiter_of_typ (of_decide_eq_true h)).2 ht⟩

/-! ### Reset -/

theorem clock_of_reset {s : State} (hr : s.inp.rst = true) : clock s = advanceInputs (resetRegisters s) := by
  rw [clock, if_pos hr]

end Sys2Proof.Machine

namespace Sys2Proof.Proofs

open Sys2Proof.Machine

/-- Settles O59, instruction by instruction: each effect replaces only the components its operation writes. -/
theorem operationsWriteTheirOwnComponents : Obligations.OperationsWriteTheirOwnComponents := by
  intro i s t hr hreset hexec
  rw [exec_run hr, next_inj] at hexec
  subst hexec
  cases hrec : recordOf i with
  | some r =>
    obtain ⟨fe, ta, el, e, hta, hel⟩ := selectRecord_writes r s
    rw [effect_record hrec, e]
    exact ⟨rfl, rfl, rfl, fun h _ => hta (h r rfl), fun h _ => hel (h r rfl), by simp, fun _ => rfl, fun _ => rfl,
      fun _ => rfl, fun _ => rfl, fun _ _ => rfl⟩
  | none =>
    cases i with
    | rsy => obtain ⟨rpg, q, wc, e⟩ := effect_rsy_writes s; simp [e]
    | frameLength w => obtain ⟨tf, e⟩ := hostTransfer_writes .sendLength w s; simp [effect_frameLength, e]
    | frameTimestamp w => obtain ⟨tf, e⟩ := hostTransfer_writes .sendTimestamp w s; simp [effect_frameTimestamp, e]
    | framePayload w => obtain ⟨tf, e⟩ := hostTransfer_writes .sendBody w s; simp [effect_framePayload, e]
    | tick => simp [effect_tick]
    | consume => simp [effect_consume]
    | clearOverflow => simp [effect_clearOverflow]
    | write => simp [effect_write]
    | ack => simp [effect_ack]
    | selectOverflow =>
      obtain ⟨fe, ta, el, e, hta, hel⟩ := selectIf_writes (arbiter s == .overflow) s
      simp [effect_selectOverflow, e, hta fun h => eq_of_beq h, hel fun h => by simp [eq_of_beq h]]
    | selectEvent =>
      obtain ⟨fe, ta, el, e, -⟩ := selectIf_writes (arbiter s == .event) s
      simp [effect_selectEvent, e]
    | selectData =>
      obtain ⟨fe, ta, el, e, -, hel⟩ := selectIf_writes (arbiter s == .capture && !s.inp.capCtl) s
      simp [effect_selectData, e, hel fun h => by simp [eq_of_beq (Bool.and_eq_true_iff.mp h).1]]
    | selectControl =>
      obtain ⟨fe, ta, el, e, -, hel⟩ := selectIf_writes (arbiter s == .capture && s.inp.capCtl) s
      simp [effect_selectControl, e, hel fun h => by simp [eq_of_beq (Bool.and_eq_true_iff.mp h).1]]
    | start => obtain ⟨rpg, e⟩ := effect_start_writes s; simp [e]
    | push => obtain ⟨bb, wc, e⟩ := effect_push_writes s; simp [e]
    | pop => obtain ⟨bb, tf, e⟩ := effect_pop_writes s; simp [e]
    | flush => obtain ⟨tf, e⟩ := effect_flush_writes s; simp [e]
    | reset => exact absurd rfl hreset
    | _ => cases hrec

/-- Settles O49: RESET leaves the reset registers, and a cycle with `rst` the same with the next ports. -/
theorem resetTakesTheResetValues : Obligations.ResetTakesTheResetValues := by
  refine ⟨fun s => rfl, fun s t h => ?_⟩
  rcases h with h | ⟨hr, rfl⟩
  · have ht : resetRegisters s = t := next_inj.mp h
    simp [← ht, State.resetWith]
  · simp [clock_of_reset hr, State.resetWith]

end Sys2Proof.Proofs

end

/-! # From WidthConverter to the host no byte is lost (R77, R81, R192, R224); the host port by state (R231)

The bytes in the block stand in four places in a row: carry, holding register, queue, frame accumulator. In one cycle each
of them satisfies one equation, "held before ++ taken in = given out ++ held after"; chained, they say what a cycle does to the
bytes in the block, and an induction over the cycles gives the run. -/

section

namespace Sys2Proof.Machine

/-! ### The bytes WidthConverter holds -/

/-- The bytes of the carry, oldest first (R31). -/
def carryBytes (wc : WidthConverter) : List Byte := unpack wc.carry wc.remain.toNat

/-- The word in the holding register, if it is valid (R182). -/
def registerWord (wc : WidthConverter) : List Word := if wc.outValid then [wc.outWord] else []

/-- The bytes of a presented record of length code `l` (R181): `wciBytes` is this of the multiplexer's slot. -/
abbrev recordBytes (slot : Slot) (l : BitVec 2) : List Byte := unpack slot (recordLength l)

/-- The byte used of the presented record `a` while it is not acknowledged (R187, R192). -/
def begunOf (a : List Byte) (wc : WidthConverter) : List Byte := if wc.state = .sendExtra then a.take 1 else []

theorem bytesInBlock_eq (s : State) :
    bytesInBlock s =
      (framerWords s ++ s.bb.queue ++ registerWord s.wc).flatMap wordBytes ++ carryBytes s.wc := rfl

theorem begunBytes_eq (s : State) : begunBytes s = begunOf (wciBytes s) s.wc := by
  simp [begunBytes, begunOf, wcMidRecord]

theorem begunOf_of_normal {wc : WidthConverter} (h : wc.state = .normal) (a : List Byte) : begunOf a wc = [] := by
  simp [begunOf, h]

theorem flatten_acceptedRecord (s : State) :
    (acceptedRecord s).flatten = if wciFire s then wciBytes s else [] := by
  unfold acceptedRecord; split <;> simp

/-- No bytes are on hand where `wc_remain` is 0. -/
theorem unpack_zero {w : Nat} (v : BitVec w) : unpack v 0 = [] := rfl

/-- A word made of four bytes has those bytes (R66). -/
theorem wordBytes_pack {bs : List Byte} (h : bs.length = 4) : wordBytes (pack 32 bs) = bs := by
  have := unpack_pack 32 bs (by simp [h])
  rwa [h] at this

/-- At most three bytes fit the carry, and their number the two bits of `wc_remain` (R31). -/
theorem unpack_pack_carry {bs : List Byte} {n : Nat} (hlen : bs.length = n) (hn : n < 4) :
    unpack (pack 24 bs) (BitVec.ofNat 2 n).toNat = bs := by
  have hpow : 256 ^ bs.length ≤ 2 ^ 24 := by
    rw [hlen]; exact Nat.pow_le_pow_right (n := 256) (by decide) (show n ≤ 3 by omega)
  rw [BitVec.toNat_ofNat, Nat.mod_eq_of_lt hn, ← hlen, unpack_pack 24 bs hpow]

/-- Eight bytes are on hand only with a carry of three, so the word then loaded ends with the record's first byte (R187). -/
theorem take_wcOnHand_of_eight {slot : Slot} {l : BitVec 2} {wc : WidthConverter}
    (h : 8 ≤ wc.remain.toNat + recordLength l) :
    (wcOnHand slot l wc).take 4 = carryBytes wc ++ (recordBytes slot l).take 1 := by
  have h3 : wc.remain.toNat = 3 := by
    have := wc.remain.isLt
    have := l.isLt
    unfold recordLength at h
    omega
  rw [wcOnHand, List.take_append, length_unpack, List.take_of_length_le (by simp [h3]), h3, carryBytes, h3]

/-! ### One cycle of WidthConverter -/

/-- With eight bytes on hand the record is begun, not accepted (R183, R187). -/
theorem wcReady_of_eight {l : BitVec 2} {wc : WidthConverter} (hn : wc.state = .normal)
    (h : 8 ≤ wc.remain.toNat + recordLength l) : wcReady l wc = false := by
  rw [← Bool.not_eq_true, wcReady_iff]
  simp [hn]
  omega

/-- A record whose bytes load a word waits for the holding register (R183). -/
theorem wcReady_of_outValid {l : BitVec 2} {wc : WidthConverter} (hv : wc.outValid = true)
    (h : wc.state = .sendExtra ∨ 4 ≤ wc.remain.toNat + recordLength l) : wcReady l wc = false := by
  rw [← Bool.not_eq_true, wcReady_iff]
  rcases h with hs | hge
  · simp [hs, hv]
  · simp [hv]
    omega

/-- The input side loses, repeats and reorders no byte: what it uses of the presented record follows the carry's bytes, of which
a loaded word takes the oldest four; and what it uses makes up the record by the cycle that accepts it (R184 to R188, R192). -/
theorem wcTake_conserves {slot : Slot} {l : BitVec 2} {wc : WidthConverter}
    (hx : wc.state = .sendExtra → wc.remain = 0 ∧ recordLength l = 5) :
    ∃ (used : List Byte) (loaded : List Word),
      carryBytes wc ++ used = loaded.flatMap wordBytes ++ carryBytes (wcTake slot l wc) ∧
      registerWord wc ++ loaded = registerWord (wcTake slot l wc) ∧
      begunOf (recordBytes slot l) wc ++ used =
        (if wcReady l wc then recordBytes slot l else []) ++ begunOf (recordBytes slot l) (wcTake slot l wc) := by
  have hlen := length_wcOnHand slot l wc
  have hready := wcReady_iff l wc
  have hword (h : 4 ≤ wc.remain.toNat + recordLength l) :
      wordBytes (pack 32 ((wcOnHand slot l wc).take 4)) = (wcOnHand slot l wc).take 4 :=
    wordBytes_pack (by rw [List.length_take, hlen]; omega)
  obtain ⟨hn, hlt, e⟩ | ⟨hn, hge, hlt, hv, e⟩ | ⟨hn, hge, hv, e⟩ | ⟨hs, hv, e⟩ | ⟨hv, hwait, e⟩ :=
    wcTake_cases slot l wc <;> rw [e]
  -- the record fits the carry
  · refine ⟨recordBytes slot l, [], (unpack_pack_carry hlen hlt).symm, by simp [registerWord], ?_⟩
    simp [begunOf, hn, hready.mpr (.inl ⟨hn, hlt⟩)]
  -- the record fills one word, its rest fits the carry
  · refine ⟨recordBytes slot l, [pack 32 ((wcOnHand slot l wc).take 4)], ?_, by simp [registerWord, hv], ?_⟩
    · have hcarry := unpack_pack_carry (bs := (wcOnHand slot l wc).drop 4) (by rw [List.length_drop, hlen])
        (show wc.remain.toNat + recordLength l - 4 < 4 by omega)
      calc carryBytes wc ++ recordBytes slot l
          = (wcOnHand slot l wc).take 4 ++ (wcOnHand slot l wc).drop 4 := (List.take_append_drop 4 _).symm
        _ = _ := by rw [List.flatMap_singleton, hword hge]; exact congrArg _ hcarry.symm
    · simp [begunOf, hn, hready.mpr (.inr (.inl ⟨hn, hlt, hv⟩))]
  -- the first of the record's two words
  · refine ⟨(recordBytes slot l).take 1, [pack 32 ((wcOnHand slot l wc).take 4)], ?_, by simp [registerWord, hv],
      by simp [begunOf, hn, wcReady_of_eight hn hge]⟩
    rw [List.flatMap_singleton, hword (by omega), take_wcOnHand_of_eight hge]
    exact (List.append_nil _).symm
  -- the second of the record's two words
  · obtain ⟨hzero, hfive⟩ := hx hs
    refine ⟨(recordBytes slot l).drop 1, [pack 32 ((recordBytes slot l).drop 1)], ?_, by simp [registerWord, hv], ?_⟩
    · rw [List.flatMap_singleton, wordBytes_pack (by simp [hfive])]
      simp [carryBytes, hzero, unpack_zero]
    · simp [begunOf, hs, hready.mpr (.inr (.inr ⟨hs, hv⟩)), - List.drop_one]
  -- the holding register is full
  · exact ⟨[], [], by simp, by simp, by simp [wcReady_of_outValid hv hwait]⟩

/-! The output side touches the holding register only (R182). -/

@[simp] theorem carryBytes_wcDrain (fire : Bool) (wc : WidthConverter) : carryBytes (wcDrain fire wc) = carryBytes wc := by
  rw [wcDrain_eq]; rfl

@[simp] theorem begunOf_wcDrain (a : List Byte) (fire : Bool) (wc : WidthConverter) :
    begunOf a (wcDrain fire wc) = begunOf a wc := by
  rw [wcDrain_eq]; rfl

theorem outValid_of_wcoFire {s : State} (h : wcoFire s = true) : s.wc.outValid = true :=
  (Bool.and_eq_true_iff.mp h).1

/-- A drain takes the word that stands in the holding register. -/
theorem registerWord_wcDrain {fire : Bool} {wc : WidthConverter} (h : fire = true → wc.outValid = true) :
    registerWord wc = (if fire then [wc.outWord] else []) ++ registerWord (wcDrain fire wc) := by
  cases fire with
  | false => rfl
  | true => simp [registerWord, h rfl]

/-- Inside a two-word record the presented record has five bytes (R188, R207). -/
theorem recordLength_of_sendExtra {s : State} (h : midRecordInv s) (hx : s.wc.state = .sendExtra) :
    recordLength (wciLencode s) = 5 := by
  obtain ⟨hm, -⟩ := presented_of_sendExtra h hx
  obtain ⟨hgen, henc⟩ := h hx
  cases hq : s.muxSelQ with
  | true => simp [wciLencode, hm, hq, rpgLencode, (hgen hq).2, recordLength]
  | false =>
    obtain ⟨hemit, htyp, hlen⟩ := henc hq
    simp [wciLencode, hm, hq, recLencode, recValid, hemit, byteCount, htyp, hlen, recordLength]

/-! ### The words of the batch in TransportFramer -/

/-- The words of the batch that the host has not received (R239, R243). -/
def batchWords (tf : TransportFramer) : List Word := (tf.acc.take tf.level).drop tf.rdIdx

/-- The payload word transferred to the host in this cycle (R243). -/
def sentWord (s : State) : List Word := if s.tf.state = .sendBody ∧ hostFire s = true then [hostData s] else []

theorem framerWords_eq (s : State) : framerWords s = batchWords s.tf := rfl

theorem deliveredBytes_eq (s : State) : deliveredBytes s = (sentWord s).flatMap wordBytes := by
  unfold deliveredBytes sentWord; split <;> simp

theorem sentWord_of_fill {s : State} (h : s.tf.state = .fill) : sentWord s = [] := by
  simp [sentWord, h]

@[simp] theorem batchWords_tfTick (tf : TransportFramer) : batchWords (tfTick tf) = batchWords tf := rfl

@[simp] theorem batchWords_tfTimer (c : Config) (fire : Bool) (tf : TransportFramer) :
    batchWords (tfTimer c fire tf) = batchWords tf := by
  rw [tfTimer_eq]; rfl

theorem batchWords_tfFlush {tf : TransportFramer} (h : tf.rdIdx = 0) : batchWords (tfFlush tf) = batchWords tf := by
  simp [batchWords, tfFlush, h]

/-- An accepted word joins the batch at its end (R234). -/
theorem batchWords_tfAccept {tf : TransportFramer} (hread : tf.rdIdx = 0) (hroom : tf.level < tf.acc.length) (w : Word) :
    batchWords (tfAccept w tf) = batchWords tf ++ [w] := by
  simp [batchWords, tfAccept, hread, List.take_add_one, List.take_set_of_le, hroom]

/-- An accepted body word is the first of the batch not yet received; the header words are none of it (R241 to R244). -/
theorem batchWords_tfSent {tf : TransportFramer} (hread : tf.rdIdx < tf.level) (hsize : tf.level ≤ tf.acc.length) :
    batchWords tf = (if tf.state = .sendBody then [accRead tf] else []) ++ batchWords (tfSent tf) := by
  have hfirst : batchWords tf = accRead tf :: (tf.acc.take tf.level).drop (tf.rdIdx + 1) := by
    rw [batchWords, List.drop_eq_getElem_cons (by rw [List.length_take]; omega)]
    simp [accRead, Nat.lt_of_lt_of_le hread hsize]
  obtain ⟨hs, e⟩ | ⟨hs, e⟩ | ⟨hs, e⟩ | ⟨hs, hlast, e⟩ | ⟨hs, -, e⟩ := tfSent_cases tf <;> rw [e]
  · simp [hs]
  · simp [hs, batchWords]
  · simp [hs, batchWords]
  · rw [hfirst]
    simp [hs, hlast, batchWords]
  · rw [hfirst]
    simp [hs, batchWords]

/-! ### One clock cycle, stage by stage -/

section Cycle

variable {s : State} (hr : s.inp.rst = false) (hv : s.cfg.feVariant = .parallel)

include hr hv

/-- A record half taken at the end of a cycle is presented unchanged in the next (R61, R188, R207). -/
theorem wciBytes_clock (hc : configLegal s.cfg = true) (hmid : midRecordInv s) (hval : wciValid s = true)
    (hx : (clock s).wc.state = .sendExtra) : wciBytes (clock s) = wciBytes s := by
  have htake : (wcTake (wciSlot s) (wciLencode s) s.wc).state = .sendExtra := by
    rw [clock_wc s hr hv, transportCycle_wc, wcNext, wcDrain_eq, if_pos hval] at hx
    exact hx
  obtain ⟨hready, -⟩ := fiveByteSource_of_wcTake_sendExtra hc hmid hval htake
  have hsel : muxSel (clock s) = muxSel s := by
    rw [muxSel, if_pos (by simp [wcMidRecord, hx]), clock_muxSelQ s hr hv, transportCycle_muxSelQ]
  cases hm : muxSel s with
  | true => simp [wciBytes, wciSlot, wciLencode, hsel, hm, rpgSlot, rpgLencode]
  | false =>
    have hrec : recValid s = true := by simpa [wciValid, hm] using hval
    obtain ⟨-, hslot, hlen⟩ := record_held hr hrec (by simp [recFire, recReady, hready])
    simp [wciBytes, wciSlot, wciLencode, hsel, hm, hslot, hlen]

/-- What the next cycle counts as begun is the begun part of the record presented in this one. -/
theorem begunBytes_clock (h : Inv s) (hval : wciValid s = true) :
    begunBytes (clock s) = begunOf (wciBytes s) (clock s).wc := by
  obtain ⟨hc, -, -, -, -, -, -, -, hmid, -⟩ := h
  rw [begunBytes_eq]
  cases hx : (clock s).wc.state with
  | normal => rw [begunOf_of_normal hx, begunOf_of_normal hx]
  | sendExtra => rw [wciBytes_clock hr hv hc hmid hval hx]

/-- One cycle of WidthConverter: what it uses of the presented record follows the carry, and the holding register gives its word
to the queue or takes the next one (R182, R194). -/
theorem wc_clock_conserves (h : Inv s) :
    ∃ (used : List Byte) (loaded : List Word),
      carryBytes s.wc ++ used = loaded.flatMap wordBytes ++ carryBytes (clock s).wc ∧
      registerWord s.wc ++ loaded = pushedWord s ++ registerWord (clock s).wc ∧
      begunBytes s ++ used = (acceptedRecord s).flatten ++ begunBytes (clock s) := by
  obtain ⟨-, -, -, -, -, -, -, ⟨-, hzero⟩, hmid, -⟩ := id h
  cases hval : wciValid s with
  | false =>
    have hnormal : s.wc.state = .normal := by
      cases hx : s.wc.state with
      | normal => rfl
      | sendExtra => simp [(presented_of_sendExtra hmid hx).2] at hval
    have hwc := clock_wc_of_no_record hr hv hval
    have hnormal' : (clock s).wc.state = .normal := by rw [hwc, wcDrain_eq]; exact hnormal
    refine ⟨[], [], by simp [hwc], ?_, ?_⟩
    · rw [hwc, List.append_nil]
      exact registerWord_wcDrain outValid_of_wcoFire
    · rw [begunBytes_eq, begunBytes_eq, begunOf_of_normal hnormal, begunOf_of_normal hnormal',
        flatten_acceptedRecord, wciFire, hval]
      rfl
  | true =>
    obtain ⟨used, loaded, hcarry, hword, hbegun⟩ := wcTake_conserves (slot := wciSlot s) (l := wciLencode s)
      (fun hx => ⟨hzero hx, recordLength_of_sendExtra hmid hx⟩)
    have hwc : (clock s).wc = wcDrain (wcoFire s) (wcTake (wciSlot s) (wciLencode s) s.wc) := by
      rw [clock_wc s hr hv, transportCycle_wc, wcNext, if_pos hval]
    refine ⟨used, loaded, by rw [hwc, carryBytes_wcDrain, hcarry], ?_, ?_⟩
    · have hkept (hf : wcoFire s = true) := wcTake_of_outValid (outValid_of_wcoFire hf) (wciSlot s) (wciLencode s)
      have hpush : pushedWord s = if wcoFire s then [(wcTake (wciSlot s) (wciLencode s) s.wc).outWord] else [] := by
        cases hf : wcoFire s with
        | false => simp [pushedWord, hf]
        | true => simp [pushedWord, hf, wcoWord, (hkept hf).2]
      rw [hword, hwc, hpush]
      exact registerWord_wcDrain fun hf => (hkept hf).1
    · rw [begunBytes_clock hr hv h hval, begunBytes_eq, flatten_acceptedRecord, wciFire, hval, hwc, begunOf_wcDrain]
      exact hbegun

/-- One cycle of BurstBuffer (R219). -/
theorem queue_clock : s.bb.queue ++ pushedWord s = poppedWord s ++ (clock s).bb.queue := by
  rw [clock_bb s hr hv, transportCycle_bb, bbNext_queue]
  change _ ++ pushedWord s = _ ++ (_ ++ pushedWord s)
  cases hf : bbrFire s with
  | false => simp [poppedWord, hf]
  | true =>
    cases hq : s.bb.queue with
    | nil => simp [bbrFire, bbrValid, bbEmpty, hq] at hf
    | cons w ws => simp [poppedWord, hf, bbrWord, hq]

/-- One cycle of TransportFramer: a word joins the batch while it fills, its first word leaves while it is sent (R245). -/
theorem framerWords_clock (h : Inv s) : framerWords s ++ poppedWord s = sentWord s ++ framerWords (clock s) := by
  obtain ⟨hc, hmem, -, -, -, -, -, -, -, -, -, hidle, -, hsend⟩ := h
  obtain ⟨-, hacc, hlevel⟩ := (memory_wf_iff s).mp hmem
  have hnopop (hn : bbrReady s = false) : poppedWord s = [] := by simp [poppedWord, bbrFire, hn]
  rw [framerWords_eq, framerWords_eq, clock_tf s hr hv, transportCycle_tf, tfNext, batchWords_tfTick]
  obtain ⟨hf, ht, e⟩ | ⟨hf, ht, hpop, e⟩ | ⟨hf, ht, hpop, e⟩ | ⟨hf, hhost, e⟩ | ⟨hf, hhost, e⟩ :=
    tfPhase_cases s.cfg (bbrFire s) (bbrWord s) (hostFire s) s.tf <;> rw [e]
  · rw [batchWords_tfFlush (hidle hf).1, hnopop (by simp [bbrReady, ht]), sentWord_of_fill hf]
    simp
  · have hroom : s.tf.level < s.tf.acc.length := by
      have := level_lt_of_no_trigger ht
      have := configLegal_depth hc
      omega
    rw [tfTimer_eq, sentWord_of_fill hf, poppedWord, if_pos hpop]
    exact (batchWords_tfAccept (tf := { s.tf with timer := (tfTimer s.cfg true s.tf).timer }) (hidle hf).1 hroom _).symm
  · rw [batchWords_tfTimer, sentWord_of_fill hf]
    simp [poppedWord, hpop]
  · rw [hnopop (by simp [bbrReady, hf]), List.append_nil, batchWords_tfSent (hsend hf).1 (hacc ▸ hlevel)]
    congr 1
    cases hs : s.tf.state <;> simp [sentWord, hs, hhost, hostData]
  · rw [hnopop (by simp [bbrReady, hf])]
    simp [sentWord, hhost]

/-- One cycle of the block: the four stages chained, from the bytes used of the presented record to those the host receives. -/
theorem bytesInBlock_clock (h : Inv s) :
    ∃ used : List Byte,
      deliveredBytes s ++ bytesInBlock (clock s) = bytesInBlock s ++ used ∧
      begunBytes s ++ used = (acceptedRecord s).flatten ++ begunBytes (clock s) := by
  obtain ⟨used, loaded, hcarry, hregister, hbegun⟩ := wc_clock_conserves hr hv h
  have hqueue := queue_clock hr hv
  have hframer := framerWords_clock hr hv h
  have hwords : sentWord s ++ (framerWords (clock s) ++ (clock s).bb.queue ++ registerWord (clock s).wc) =
      framerWords s ++ s.bb.queue ++ registerWord s.wc ++ loaded :=
    calc sentWord s ++ (framerWords (clock s) ++ (clock s).bb.queue ++ registerWord (clock s).wc)
        = framerWords s ++ (poppedWord s ++ (clock s).bb.queue) ++ registerWord (clock s).wc := by
          simp only [← List.append_assoc, ← hframer]
      _ = framerWords s ++ s.bb.queue ++ (pushedWord s ++ registerWord (clock s).wc) := by
          rw [← hqueue]; simp only [List.append_assoc]
      _ = framerWords s ++ s.bb.queue ++ registerWord s.wc ++ loaded := by
          rw [← hregister, List.append_assoc (_ ++ _)]
  refine ⟨used, ?_, hbegun⟩
  calc deliveredBytes s ++ bytesInBlock (clock s)
      = (sentWord s ++ (framerWords (clock s) ++ (clock s).bb.queue ++ registerWord (clock s).wc)).flatMap wordBytes ++
          carryBytes (clock s).wc := by
        simp only [deliveredBytes_eq, bytesInBlock_eq, List.flatMap_append, List.append_assoc]
    _ = (framerWords s ++ s.bb.queue ++ registerWord s.wc).flatMap wordBytes ++
          (loaded.flatMap wordBytes ++ carryBytes (clock s).wc) := by
        rw [hwords, List.flatMap_append, List.append_assoc]
    _ = bytesInBlock s ++ used := by rw [← hcarry, bytesInBlock_eq, ← List.append_assoc]

end Cycle

/-! ### A run of clock cycles -/

/-- From any state with the invariant, inside a record too: the bytes used in a run complete the records accepted in it, but for
what was begun before and is begun after. -/
theorem bytesInBlock_clockRun (n : Nat) {s : State} (h : Inv s) (hv : s.cfg.feVariant = .parallel) (hr : noReset s) :
    ∃ used : List Byte,
      collect deliveredBytes n s ++ bytesInBlock (clockRun n s) = bytesInBlock s ++ used ∧
      begunBytes s ++ used = (collect acceptedRecord n s).flatten ++ begunBytes (clockRun n s) := by
  induction n generalizing s with
  | zero => exact ⟨[], by simp [collect, clockRun], by simp [collect, clockRun]⟩
  | succ n ih =>
    obtain ⟨first, hblock, hbegun⟩ := bytesInBlock_clock (noReset_inp hr) hv h
    obtain ⟨rest, hblock', hbegun'⟩ := ih (inv_clock h) (by rwa [clock_cfg]) (always_clock hr)
    refine ⟨first ++ rest, ?_, ?_⟩
    · rw [collect, clockRun, List.append_assoc, hblock', ← List.append_assoc, hblock, List.append_assoc]
    · rw [collect, clockRun, List.flatten_append, List.append_assoc, ← hbegun', ← List.append_assoc, hbegun,
        List.append_assoc]

/-! ### Frame words on the host port -/

/-- Without a ready host there is no transfer (R62). -/
theorem hostFire_of_not_ready {s : State} (h : s.inp.hostReady = false) : hostFire s = false := by
  simp [hostFire, h]

/-- A word that the block does not present in that state, or the host does not accept, is not sent. -/
theorem hostTransfer_waits {st : TfState} {w : Word} {s : State}
    (h : s.inp.hostReady = false ∨ s.tf.state ≠ st ∨ w ≠ hostData s) : hostTransfer st w s = s := by
  obtain ⟨hst, hfire, hdata, -⟩ | ⟨-, e⟩ := hostTransfer_cases st w s
  · rcases h with hready | hne | hne
    · simp [hostFire_of_not_ready hready] at hfire
    · exact absurd hst hne
    · exact absurd hdata.symm hne
  · exact e

/-- The same in both variants: the serial one has no frame words at all (R45). -/
theorem onPipeline_hostTransfer_waits {st : TfState} {w : Word} {s : State}
    (h : s.inp.hostReady = false ∨ s.tf.state ≠ st ∨ w ≠ hostData s) : onPipeline s (hostTransfer st w s) = s := by
  rw [hostTransfer_waits h, onPipeline, ite_self]

theorem hostValid_iff {s : State} (hr : s.inp.rst = false) : hostValid s = true ↔ s.tf.state ≠ .fill := by
  simp [hostValid, hr]

theorem hostLast_iff {s : State} (hr : s.inp.rst = false) :
    hostLast s = true ↔ s.tf.state = .sendBody ∧ s.tf.rdIdx + 1 = s.tf.level := by
  simp [hostLast, hr, tfLastWord]

/-- In its sending state the block presents a latched header word, so another word differs from what it presents. -/
theorem not_presented {s : State} {st : TfState} {w latch : Word} (hlatch : s.tf.state = st → hostData s = latch)
    (h : s.inp.hostReady = false ∨ s.tf.state ≠ st ∨ w ≠ latch) :
    s.inp.hostReady = false ∨ s.tf.state ≠ st ∨ w ≠ hostData s := by
  by_cases hst : s.tf.state = st
  · rwa [hlatch hst]
  · exact .inr (.inl hst)

end Sys2Proof.Machine

namespace Sys2Proof.Proofs

open Sys2Proof.Machine

/-- Settles O36: outside a record nothing is begun at the start, so the bytes used are the accepted records and the begun
byte. -/
theorem noByteIsLostOrReordered : Obligations.NoByteIsLostOrReordered := by
  intro n s h hv hr hnormal
  obtain ⟨used, hblock, hbegun⟩ := bytesInBlock_clockRun n h hv hr
  rw [begunBytes_eq s, begunOf_of_normal hnormal, List.nil_append] at hbegun
  rw [hblock, hbegun, List.append_assoc]

/-- Settles O44: the host port by its definitions, and each frame word by the transfer that does not happen. -/
theorem frameWordsNotPresentedWait : Obligations.FrameWordsNotPresentedWait := by
  intro s w hr
  refine ⟨hostValid_iff hr, hostLast_iff hr, fun h => ?length, fun h => ?timestamp, fun h => ?payload⟩
  case length =>
    rw [exec_run hr, effect_frameLength]
    exact congrArg _ (onPipeline_hostTransfer_waits (not_presented (fun hst => by simp [hostData, hst]) h))
  case timestamp =>
    rw [exec_run hr, effect_frameTimestamp]
    exact congrArg _ (onPipeline_hostTransfer_waits (not_presented (fun hst => by simp [hostData, hst]) h))
  case payload =>
    rw [exec_run hr, effect_framePayload]
    exact congrArg _ (onPipeline_hostTransfer_waits h)

end Sys2Proof.Proofs

end

/-! # Encodings: what the encoder writes the decoder reads back (R91 to R107, R110)

A record that the block can make is minimal (R98, R99). Of such a record the header byte alone tells the length, and its last
timestamp byte keeps it apart from the resync literal, so the decoder reads it whole whatever bytes follow. Every encoding of
the record stream is such a record or the literal. -/

section

namespace Sys2Proof.Machine

/-! ### The minimal time length (R99, R122) -/

/-- `TL(c)` timestamp bytes with the header's four bits hold `c`, and one byte less would not. -/
theorem encodedLength_bounds (c : Delta) :
    c.toNat < 16 * 256 ^ (encodedLength c).toNat ∧
    (encodedLength c ≠ 0 → 16 * 256 ^ ((encodedLength c).toNat - 1) ≤ c.toNat) := by
  have := c.isLt
  unfold encodedLength
  split_ifs <;> simp <;> omega

/-! A form's width holds what its `timeLen` reaches; from the next lower form's reach on, no shorter time length does. -/

theorem encodedLength_of_width_4 (d : BitVec 4) : encodedLength (d.setWidth 28) = 0 := by
  rw [encodedLength, BitVec.toNat_setWidth_of_le (by decide), if_pos d.isLt]

theorem encodedLength_of_width_12 {d : BitVec 12} (h : 16 ≤ d.toNat) : encodedLength (d.setWidth 28) = 1 := by
  rw [encodedLength, BitVec.toNat_setWidth_of_le (by decide), if_neg (by omega), if_pos d.isLt]

theorem encodedLength_of_width_20 {d : BitVec 20} (h : 4096 ≤ d.toNat) : encodedLength (d.setWidth 28) = 2 := by
  rw [encodedLength, BitVec.toNat_setWidth_of_le (by decide), if_neg (by omega), if_neg (by omega), if_pos d.isLt]

theorem encodedLength_of_width_28 {d : BitVec 28} (h : 1048576 ≤ d.toNat) : encodedLength (d.setWidth 28) = 3 := by
  rw [encodedLength, BitVec.toNat_setWidth_of_le (by decide), if_neg (by omega), if_neg (by omega), if_neg (by omega)]

/-- The last of the bytes of a number is its most significant one. -/
theorem getLastD_unpackNat (n v : Nat) : (unpackNat (n + 1) v).getLastD 0 = BitVec.ofNat 8 (v / 256 ^ n) := by
  rw [unpackNat_add]
  simp [unpackNat]

/-- With the minimal `timeLen` the last timestamp byte is not zero (R99). -/
theorem timestampBytes_last_ne_zero {c : Delta} (h : encodedLength c ≠ 0) :
    (timestampBytes c (encodedLength c)).getLastD 0 ≠ 0 := by
  obtain ⟨hlt, hge⟩ := encodedLength_bounds c
  obtain ⟨n, hn⟩ : ∃ n, (encodedLength c).toNat = n + 1 :=
    Nat.exists_eq_succ_of_ne_zero fun h0 => h (BitVec.eq_of_toNat_eq h0)
  have hge := hge h
  rw [hn] at hlt hge
  have hpos : 1 ≤ c.toNat / 16 / 256 ^ n := by
    rw [Nat.div_div_eq_div_mul, Nat.le_div_iff_mul_le (by positivity)]
    simpa using hge
  have hbyte : c.toNat / 16 / 256 ^ n < 256 := by
    rw [Nat.div_div_eq_div_mul, Nat.div_lt_iff_lt_mul (by positivity)]
    rw [pow_succ] at hlt
    linarith
  rw [timestampBytes, hn, getLastD_unpackNat]
  intro h0
  have hzero : c.toNat / 16 / 256 ^ n = 0 := by
    simpa [Nat.mod_eq_of_lt hbyte, - Nat.div_eq_zero_iff] using congrArg BitVec.toNat h0
  omega

/-! ### The record of a well-formed form -/

theorem recordMinimal_timed {t : RecType} (ht : t ≠ .overflow) {d : Delta} {len : BitVec 2} (h : encodedLength d = len)
    (payload : Byte) : recordMinimal ⟨t, d, len, payload⟩ :=
  ⟨fun h0 => absurd h0 ht, fun _ => h.symm⟩

/-- A well-formed record form stands for a record that the arbiter could create (R98, R99). -/
theorem recordMinimal_of_wellFormed {i : Instr} {r : Record} (h : i.wellFormed = true) (hr : recordOf i = some r) :
    recordMinimal r := by
  cases i with
  | ovf ts =>
    obtain rfl : ts = 0xFFFFFF := by simpa [Instr.wellFormed] using h
    cases hr
    exact ⟨fun _ => ⟨rfl, rfl⟩, fun h0 => absurd rfl h0⟩
  | evtT0 d b | datT0 d b | ctlT0 d b =>
    cases hr
    exact recordMinimal_timed (by decide) (encodedLength_of_width_4 d) b
  | evtT1 d b | datT1 d b | ctlT1 d b =>
    cases hr
    exact recordMinimal_timed (by decide) (encodedLength_of_width_12 (of_decide_eq_true h)) b
  | evtT2 d b | datT2 d b | ctlT2 d b =>
    cases hr
    exact recordMinimal_timed (by decide) (encodedLength_of_width_20 (of_decide_eq_true h)) b
  | evtT3 d b | datT3 d b | ctlT3 d b =>
    cases hr
    exact recordMinimal_timed (by decide) (encodedLength_of_width_28 (of_decide_eq_true h)) b
  | _ => cases hr

/-- The form that the decoder assembles from a record's fields is the form that stands for the record (R96). -/
theorem recordForm_of_recordOf {i : Instr} {r : Record} (hr : recordOf i = some r) :
    recordForm r.typ.code r.len.toNat r.delta.toNat r.payload = i := by
  cases i with
  | ovf ts =>
    cases hr
    have hts : (ts.toNat * 16 + 15) % 2 ^ 28 / 16 = ts.toNat := by
      have := ts.isLt
      omega
    simp only [RecType.code, recordForm, BitVec.toNat_ofNat, hts, BitVec.ofNat_toNat, BitVec.setWidth_eq]
  | evtT0 d b | datT0 d b | ctlT0 d b | evtT1 d b | datT1 d b | ctlT1 d b | evtT2 d b | datT2 d b | ctlT2 d b
  | evtT3 d b | datT3 d b | ctlT3 d b =>
    cases hr
    simp [RecType.code, recordForm, - BitVec.toNat_setWidth]
  | _ => cases hr

/-! ### The header byte (R91, R94, R103) -/

theorem RecType.code_lt (t : RecType) : t.code < 4 := by
  cases t <;> decide

theorem RecType.code_eq_zero_iff (t : RecType) : t.code = 0 ↔ t = .overflow := by
  cases t <;> decide

theorem toNat_headerByte (t : RecType) (d : Delta) (len : BitVec 2) :
    (headerByte t d len).toNat = 64 * t.code + 16 * len.toNat + d.toNat % 16 := by
  have := RecType.code_lt t
  have := len.isLt
  rw [headerByte, BitVec.toNat_ofNat]
  omega

/-- The header's three fields are its type, its `timeLen` and the low bits of its `timeDelta`. -/
theorem headerByte_fields (t : RecType) (d : Delta) (len : BitVec 2) :
    (headerByte t d len).toNat / 64 = t.code ∧ (headerByte t d len).toNat / 16 % 4 = len.toNat ∧
    (headerByte t d len).toNat % 16 = d.toNat % 16 := by
  have := len.isLt
  rw [toNat_headerByte]
  omega

theorem byteCountOfHeader_headerByte (t : RecType) (d : Delta) (len : BitVec 2) :
    byteCountOfHeader (headerByte t d len) = byteCount t len := by
  obtain ⟨htype, hlen, -⟩ := headerByte_fields t d len
  simp only [byteCountOfHeader, byteCount, htype, hlen, RecType.code_eq_zero_iff]

/-- The header of a record that the block can make is none of 0x00 .. 0x3E (R104). -/
theorem le_headerByte {r : Record} (h : recordMinimal r) : 0x3F ≤ (headerByte r.typ r.delta r.len).toNat := by
  rw [toNat_headerByte]
  by_cases ht : r.typ = .overflow
  · obtain ⟨hd, hl⟩ := h.1 ht
    simp [ht, hd, hl, RecType.code, taMax]
  · have := mt (RecType.code_eq_zero_iff r.typ).mp ht
    omega

theorem length_recordBytes (r : Record) : r.bytes.length = byteCount r.typ r.len := by
  cases ht : r.typ <;> simp [Record.bytes, enc, timestampBytes, payloadBytes, byteCount, ht] <;> omega

theorem byteCount_bounds {r : Record} (h : recordMinimal r) :
    2 ≤ byteCount r.typ r.len ∧ byteCount r.typ r.len ≤ 5 := by
  have := r.len.isLt
  by_cases ht : r.typ = .overflow
  · simp [byteCount, ht, (h.1 ht).2]
  · simp only [byteCount, if_neg ht]
    omega

/-! ### The decoder of the record stream -/

/-- What the decoder reads after a header byte of the table when the record is whole and no literal (R96, R103). -/
theorem decodeRecord_of_header {h : Byte} {tail : List Byte} (hrow : 0x3F ≤ h.toNat)
    (hwhole : byteCountOfHeader h ≤ tail.length + 1) (hliteral : h :: tail.take 2 ≠ literalBytes) :
    decodeRecord (h :: tail) =
      .instr (recordForm (h.toNat / 64) (h.toNat / 16 % 4)
          (h.toNat % 16 + 16 * packNat (tail.take (h.toNat / 16 % 4))) (tail.getD (h.toNat / 16 % 4) 0))
        (tail.drop (byteCountOfHeader h - 1)) := by
  rw [decodeRecord, if_neg (by omega), if_neg (by omega), if_neg hliteral]

/-- No record that the block can make begins like the resync literal: its last timestamp byte is not zero (R107). -/
theorem record_ne_literal {r : Record} (h : recordMinimal r) (rest : List Byte) :
    headerByte r.typ r.delta r.len :: (timestampBytes r.delta r.len ++ rest).take 2 ≠ literalBytes := by
  intro heq
  obtain ⟨hhead, htail⟩ := List.cons_eq_cons.mp heq
  have hcode := toNat_headerByte r.typ r.delta r.len
  have hheader : (headerByte r.typ r.delta r.len).toNat = 80 := congrArg BitVec.toNat hhead
  have := r.len.isLt
  have ht : r.typ ≠ .overflow := mt (RecType.code_eq_zero_iff r.typ).mpr (by omega)
  have hlen : r.len = 1 := BitVec.eq_of_toNat_eq (by change _ = 1; omega)
  have hmin := h.2 ht
  have hlast := timestampBytes_last_ne_zero (c := r.delta) (by simp [← hmin, hlen])
  rw [← hmin, hlen] at hlast
  rw [hlen] at htail
  have hfirst : BitVec.ofNat 8 (r.delta.toNat / 16) = 0 := (List.cons_eq_cons.mp htail).1
  exact hlast hfirst

/-- The `timeDelta` that the decoder assembles (R96), when the timestamp bytes reach it. -/
theorem delta_of_timestampBytes {d : Delta} {len : BitVec 2} (h : d.toNat < 16 * 256 ^ len.toNat) :
    d.toNat % 16 + 16 * packNat (timestampBytes d len) = d.toNat := by
  rw [timestampBytes, packNat_unpackNat, Nat.mod_eq_of_lt (Nat.div_lt_of_lt_mul h)]
  omega

theorem delta_lt_of_recordMinimal {r : Record} (h : recordMinimal r) : r.delta.toNat < 16 * 256 ^ r.len.toNat := by
  by_cases ht : r.typ = .overflow
  · obtain ⟨hd, hl⟩ := h.1 ht
    simp [hd, hl, taMax]
  · rw [h.2 ht]
    exact (encodedLength_bounds r.delta).1

/-- A record that the block can make is read whole, and the bytes after it are left (R96, R103). -/
theorem decodeRecord_bytes {r : Record} (h : recordMinimal r) (rest : List Byte) :
    decodeRecord (r.bytes ++ rest) = .instr (recordForm r.typ.code r.len.toNat r.delta.toNat r.payload) rest := by
  obtain ⟨htype, hlen, hlow⟩ := headerByte_fields r.typ r.delta r.len
  have hstamp : (timestampBytes r.delta r.len).length = r.len.toNat := length_unpackNat _ _
  have hsplit : r.bytes ++ rest = headerByte r.typ r.delta r.len ::
      (timestampBytes r.delta r.len ++ (payloadBytes r.typ r.payload ++ rest)) := by
    simp [Record.bytes, enc]
  have hcount := length_recordBytes r
  rw [hsplit, decodeRecord_of_header (le_headerByte h) ?whole (record_ne_literal h _), htype, hlen, hlow,
    List.take_left' hstamp, delta_of_timestampBytes (delta_lt_of_recordMinimal h), byteCountOfHeader_headerByte]
  case whole =>
    have := congrArg List.length hsplit
    rw [List.length_append, List.length_cons] at this
    rw [byteCountOfHeader_headerByte]
    omega
  cases ht : r.typ with
  | overflow => simp [RecType.code, payloadBytes, byteCount, List.drop_left' hstamp, recordForm]
  | event | data | control => simp [RecType.code, payloadBytes, byteCount, hstamp, List.drop_append]

/-! ### The decoder on what the encoder writes -/

/-- A well-formed record form is read back from its record's bytes, and the bytes after them are left. -/
theorem decodeRecord_of_recordOf {i : Instr} {r : Record} (hwf : i.wellFormed = true) (hr : recordOf i = some r)
    (rest : List Byte) : decodeRecord (r.bytes ++ rest) = .instr i rest := by
  rw [decodeRecord_bytes (recordMinimal_of_wellFormed hwf hr), recordForm_of_recordOf hr]

/-- The encoder puts a record form on the record stream as its record's bytes (R95). -/
theorem encode_of_recordOf {i : Instr} {r : Record} (hr : recordOf i = some r) : encode i = ⟨.stream, r.bytes⟩ := by
  cases i <;> cases hr <;> rfl

/-- The literal is read back, and the bytes after it are left (R106). -/
theorem decodeRecord_literal (rest : List Byte) : decodeRecord (literalBytes ++ rest) = .instr .rsy rest := by
  simp [decodeRecord, literalBytes, byteCountOfHeader]

/-- On the record stream stand the records and the literal, nothing else (R90). -/
theorem record_or_literal_of_stream {i : Instr} (h : (encode i).port = .stream) :
    (∃ r, recordOf i = some r) ∨ i = .rsy := by
  cases i with
  | ovf | evtT0 | evtT1 | evtT2 | evtT3 | datT0 | datT1 | datT2 | datT3 | ctlT0 | ctlT1 | ctlT2 | ctlT3 =>
    exact .inl ⟨_, rfl⟩
  | rsy => exact .inr rfl
  | _ => cases h

/-- Every well-formed encoding of the record stream is read back, and the bytes after it are left. -/
theorem decodeRecord_encode {i : Instr} (hwf : i.wellFormed = true) (hport : (encode i).port = .stream)
    (rest : List Byte) : decodeRecord ((encode i).bytes ++ rest) = .instr i rest := by
  obtain ⟨r, hr⟩ | rfl := record_or_literal_of_stream hport
  · rw [encode_of_recordOf hr]
    exact decodeRecord_of_recordOf hwf hr rest
  · exact decodeRecord_literal rest

/-- The four bytes of a word are the word (R66, R68). -/
theorem pack_unpack_word (w : Word) : pack 32 (unpack w 4) = w := by
  rw [pack, unpack, packNat_unpackNat, Nat.mod_eq_of_lt (b := 256 ^ 4) w.isLt, BitVec.ofNat_toNat, BitVec.setWidth_eq]

/-- The frame word of a position, as `Strobe.instr` is the operation of a line (R111). -/
def frameWordAt (pos : FramePos) (w : Word) : Instr :=
  match pos with
  | .length => .frameLength w
  | .timestamp => .frameTimestamp w
  | .payload => .framePayload w

/-- The four bytes of a word on the host port are read as the frame word of their position (R110, R111). -/
theorem decode_hostWord (pos : FramePos) (w : Word) :
    decode ⟨.host pos, unpack w 4⟩ = .instr (frameWordAt pos w) [] := by
  have htake : (unpack w 4).take 4 = unpack w 4 := List.take_of_length_le (by simp)
  have hdrop : (unpack w 4).drop 4 = [] := List.drop_of_length_le (by simp)
  cases pos <;> simp [decode, decodeFrameWord, frameWordAt, htake, hdrop, pack_unpack_word]

/-- An asserted strobe line is read as its operation (R115). -/
theorem decode_encodeStrobe (strobe : Strobe) : decode (encodeStrobe strobe) = .instr strobe.instr [] := rfl

end Sys2Proof.Machine

namespace Sys2Proof.Proofs

open Sys2Proof.Machine

/-- Settles O1: the record stream by its decoder, the frame words by their position, the strobe words by their line. -/
theorem wellFormedInstructionsDecodeBack : Obligations.WellFormedInstructionsDecodeBack := by
  intro i hwf
  by_cases hport : (encode i).port = .stream
  · rw [decode, hport]
    simpa using decodeRecord_encode hwf hport []
  · cases i with
    | frameLength w => exact decode_hostWord .length w
    | frameTimestamp w => exact decode_hostWord .timestamp w
    | framePayload w => exact decode_hostWord .payload w
    | tick => exact decode_encodeStrobe .tick
    | consume => exact decode_encodeStrobe .consume
    | clearOverflow => exact decode_encodeStrobe .clearOverflow
    | write => exact decode_encodeStrobe .write
    | ack => exact decode_encodeStrobe .ack
    | selectOverflow => exact decode_encodeStrobe .selectOverflow
    | selectEvent => exact decode_encodeStrobe .selectEvent
    | selectData => exact decode_encodeStrobe .selectData
    | selectControl => exact decode_encodeStrobe .selectControl
    | start => exact decode_encodeStrobe .start
    | push => exact decode_encodeStrobe .push
    | pop => exact decode_encodeStrobe .pop
    | flush => exact decode_encodeStrobe .flush
    | reset => exact decode_encodeStrobe .reset
    | _ => exact absurd rfl hport

/-- Settles O2: the record is minimal, so it is read whole, and its header carries its type and `timeLen`. -/
theorem recordEndsWhereItsHeaderSays : Obligations.RecordEndsWhereItsHeaderSays := by
  intro i r rest hwf hr
  refine ⟨decodeRecord_of_recordOf hwf hr rest, ?_, length_recordBytes r, ?_⟩
  · rw [length_recordBytes]
    exact byteCountOfHeader_headerByte r.typ r.delta r.len
  · rw [length_recordBytes]
    exact byteCount_bounds (recordMinimal_of_wellFormed hwf hr)

/-- Settles O3, by induction on the list: each encoding is read back and leaves the bytes of the others. -/
theorem recordStreamParsesBack : Obligations.RecordStreamParsesBack := by
  intro is h
  induction is with
  | nil => rfl
  | cons i is ih =>
    obtain ⟨hwf, hport⟩ := h i List.mem_cons_self
    have hrest := ih fun j hj => h j (List.mem_cons_of_mem i hj)
    simp only [List.length_cons, List.flatMap_cons, decodeStream, decodeRecord_encode hwf hport, hrest]

/-- Settles O8: a created record is minimal, so its time length holds its `timeDelta` and no fewer bytes would. -/
theorem createdRecordsHaveMinimalTime : Obligations.CreatedRecordsHaveMinimalTime := by
  intro s r hsel ht
  have hmin := (recordMinimal_of_selected hsel).2 ht
  refine ⟨hmin, fun h0 => ?_, fun hne => ?_⟩
  · have hlt := (encodedLength_bounds r.delta).1
    rw [← hmin, h0] at hlt
    exact hlt
  · rw [hmin] at hne ⊢
    exact timestampBytes_last_ne_zero hne

/-- Settles O4: each word is what the encoder writes for a well-formed instruction. -/
theorem writtenOutWordsDecode : Obligations.WrittenOutWordsDecode := by
  have back := wellFormedInstructionsDecodeBack
  exact ⟨back (.ovf 0xFFFFFF) rfl, back (.evtT2 0x01234 0x07) rfl, back (.datT3 0x2ABCD1 0x99) rfl,
    back (.ctlT1 0x010 0x2D) rfl, back .rsy rfl, back (.frameLength 0x28) rfl, back .flush rfl⟩

/-- Settles O5: the header is looked at before anything else. -/
theorem neverProducedHeadersRejected : Obligations.NeverProducedHeadersRejected := by
  intro h rest hlow
  rw [decodeRecord, if_pos hlow]

/-- Settles O6: an Overflow record has no payload byte, and the arbiter creates it from forced constants. -/
theorem overflowRecordIsFixed : Obligations.OverflowRecordIsFixed := by
  have hfixed (payload : Byte) : enc .overflow taMax 3 payload = [0x3F, 0xFF, 0xFF, 0xFF] := rfl
  refine ⟨hfixed, fun s r hsel ht => ?_⟩
  obtain ⟨hd, hl⟩ := (recordMinimal_of_selected hsel).1 ht
  refine ⟨by rw [hd]; rfl, hl, ?_⟩
  rw [Record.bytes, ht, hd, hl, hfixed]

end Sys2Proof.Proofs

end

/-! # The record forms as selections (R99, R114, R153, R154), and what a step runs or refuses (R115, R267) -/

section

namespace Sys2Proof.Machine

/-! ### A selection of the arbiter in full -/

/-- Loading a record in either variant: the shift register takes `timeDelta` without its four header bits (R156, R165). -/
theorem feLoad_eq_encoderHolding (c : Config) (r : Record) (fe : FramingEncoder) :
    feLoad c r fe = encoderHolding c fe r := by
  have hshift : r.delta.extractLsb' 4 24 = BitVec.ofNat 24 (r.delta.toNat / 16) := by
    rw [BitVec.extractLsb', Nat.shiftRight_eq_div_pow]
  cases hv : c.feVariant with
  | serial => simp [feLoad_serial hv, encoderHolding, hv, hshift]
  | parallel => simp [feLoad_parallel hv, encoderHolding, hv]

/-- A record form of the record that the arbiter creates now is the arbiter's selection (R114). -/
theorem exec_of_selectedRecord {s : State} {i : Instr} {r : Record} (hr : s.inp.rst = false) (hi : recordOf i = some r)
    (hsel : selectedRecord s = some r) : exec i s = .next (select s) := by
  rw [exec_run hr, effect_record hi, selectRecord, if_pos hsel]

section Selected

variable {s : State} (hr : s.inp.rst = false) (hidle : s.fe.state = .idle) (hov : s.ta.overflow = false)

include hr hidle hov

/-- A form of the pending Event with its minimal `timeLen` is the selection of that Event (R99, R153). -/
theorem exec_eventForm (hnew : s.el.new = true) {i : Instr} {d : Delta} {len : BitVec 2}
    (hi : recordOf i = some ⟨.event, d, len, s.el.code⟩) (hd : s.ta.count = d) (hlen : encodedLength d = len) :
    exec i s = .next (withEventSelected s ⟨.event, d, len, s.el.code⟩) := by
  have hsel : selectedRecord s = some ⟨.event, d, len, s.el.code⟩ := by
    simp [selectedRecord, arbiter, hidle, hov, hnew, hd, hlen]
  rw [exec_of_selectedRecord hr hi hsel, select, hsel]
  simp [withEventSelected, feLoad_eq_encoderHolding, taConsume, elAck, hidle, hov, hnew, taNext_consume, elNext]

/-- A form of the byte offered with its minimal `timeLen` is the selection of that Data or Control record (R99, R154). -/
theorem exec_captureForm (hnew : s.el.new = false) (hcap : s.inp.capValid = true) {t : RecType}
    (ht : (if s.inp.capCtl then .control else .data) = t) {i : Instr} {d : Delta} {len : BitVec 2}
    (hi : recordOf i = some ⟨t, d, len, s.inp.capData⟩) (hd : s.ta.count = d) (hlen : encodedLength d = len) :
    exec i s = .next (withCaptureSelected s ⟨t, d, len, s.inp.capData⟩) := by
  have hsel : selectedRecord s = some ⟨t, d, len, s.inp.capData⟩ := by
    simp [selectedRecord, arbiter, hidle, hov, hnew, hcap, ht, hd, hlen]
  rw [exec_of_selectedRecord hr hi hsel, select, hsel]
  simp [withCaptureSelected, feLoad_eq_encoderHolding, taConsume, elAck, hidle, hov, hnew, hcap, taNext_consume]

end Selected

/-! ### A step with an encoding in the issue slot -/

theorem step_of_instr {s : State} {p : Issue} {i : Instr} {rest : List Byte} (hc : configLegal s.cfg = true)
    (hi : s.issue = some p) (hd : decode p = .instr i rest) : step s = exec i (clearIssue s) := by
  simp [step, hc, fetch, hi, hd]

theorem step_of_rejected {s : State} {p : Issue} {e : DecodeError} (hc : configLegal s.cfg = true)
    (hi : s.issue = some p) (hd : decode p = .rejected e) : step s = .refused (.undecodable e) := by
  simp [step, hc, fetch, hi, hd]

theorem step_of_illegal {s : State} (hc : configLegal s.cfg = false) : step s = .refused .illegalConfiguration := by
  simp [step, hc]

end Sys2Proof.Machine

namespace Sys2Proof.Proofs

open Sys2Proof.Machine

/-- Settles O21: in its range each form has the minimal `timeLen` of the elapsed count. -/
theorem eventFormsSelectTheirRecord : Obligations.EventFormsSelectTheirRecord := by
  intro s hr hidle hov hnew
  exact ⟨fun d hd => exec_eventForm hr hidle hov hnew rfl hd (encodedLength_of_width_4 d),
    fun d hmin hd => exec_eventForm hr hidle hov hnew rfl hd (encodedLength_of_width_12 hmin),
    fun d hmin hd => exec_eventForm hr hidle hov hnew rfl hd (encodedLength_of_width_20 hmin),
    fun d hmin hd => exec_eventForm hr hidle hov hnew rfl hd (encodedLength_of_width_28 hmin)⟩

/-- Settles O22: as for the Event forms, with the type that `cap_ctl` gives. -/
theorem captureFormsSelectTheirRecord : Obligations.CaptureFormsSelectTheirRecord := by
  intro s hr hidle hov hnew hcap
  have form {t : RecType} (ht : (if s.inp.capCtl then .control else .data) = t) {i : Instr} {d : Delta}
      {len : BitVec 2} := @exec_captureForm s hr hidle hov hnew hcap t ht i d len
  have data (hctl : s.inp.capCtl = false) : (if s.inp.capCtl then RecType.control else .data) = .data := by
    simp [hctl]
  have control (hctl : s.inp.capCtl = true) : (if s.inp.capCtl then RecType.control else .data) = .control :=
    if_pos hctl
  exact ⟨fun d hctl hd => form (data hctl) rfl hd (encodedLength_of_width_4 d),
    fun d hctl hmin hd => form (data hctl) rfl hd (encodedLength_of_width_12 hmin),
    fun d hctl hmin hd => form (data hctl) rfl hd (encodedLength_of_width_20 hmin),
    fun d hctl hmin hd => form (data hctl) rfl hd (encodedLength_of_width_28 hmin),
    fun d hctl hd => form (control hctl) rfl hd (encodedLength_of_width_4 d),
    fun d hctl hmin hd => form (control hctl) rfl hd (encodedLength_of_width_12 hmin),
    fun d hctl hmin hd => form (control hctl) rfl hd (encodedLength_of_width_20 hmin),
    fun d hctl hmin hd => form (control hctl) rfl hd (encodedLength_of_width_28 hmin)⟩

/-- Settles O52: the slot's bytes are decoded and the slot is emptied. -/
theorem stepRunsTheIssuedInstruction : Obligations.StepRunsTheIssuedInstruction :=
  fun _ _ _ _ => step_of_instr

/-- Settles O54: the configuration is looked at first, then the slot's bytes. -/
theorem stepRefusesByName : Obligations.StepRefusesByName :=
  ⟨fun _ => step_of_illegal, fun _ _ _ => step_of_rejected⟩

end Sys2Proof.Proofs

end

/-! # A frame on the host port, from its length to its last word (R111, R241 to R244, R251) -/

section

namespace Sys2Proof.Machine

/-- No reset and a ready host, in this cycle and in every cycle to come. -/
abbrev hostOpen (s : State) : Prop := always (fun i => !i.rst && i.hostReady) s

/-- One cycle of a sending state with the host ready: the word presented is transferred and the framer goes on. -/
theorem send_clock {s : State} (hv : s.cfg.feVariant = .parallel) (ho : hostOpen s) (hsend : s.tf.state ≠ .fill) :
    hostWord s = [(hostData s, (s.tf.state == .sendBody) && tfLastWord s.tf)] ∧
      (clock s).tf = tfTick (tfSent s.tf) := by
  obtain ⟨hr, hready⟩ : s.inp.rst = false ∧ s.inp.hostReady = true := by simpa using ho.1
  have hfire : hostFire s = true := by simp [hostFire, (hostValid_iff hr).mpr hsend, hready]
  refine ⟨by simp [hostWord, hfire, hostLast, hr], ?_⟩
  rw [clock_tf s hr hv, transportCycle_tf, tfNext, tfPhase_send hsend, if_pos hfire]

/-- From `SEND_BODY` with `m + 1` words to send: they go out oldest first, `host_last` on the last of them only, and the framer
fills again with an empty batch. -/
theorem body_goes_out (m : Nat) {s : State} (hv : s.cfg.feVariant = .parallel) (ho : hostOpen s)
    (hbody : s.tf.state = .sendBody) (hleft : s.tf.rdIdx + (m + 1) = s.tf.level) (hsize : s.tf.level ≤ s.tf.acc.length) :
    collect hostWord (m + 1) s = (batchWords s.tf).zip (List.replicate m false ++ [true]) ∧
      (clockRun (m + 1) s).tf.state = .fill ∧ (clockRun (m + 1) s).tf.level = 0 := by
  induction m generalizing s with
  | zero =>
    obtain ⟨hword, htf⟩ := send_clock hv ho (by simp [hbody])
    have hsent : tfSent s.tf = { s.tf with state := .fill, level := 0, timer := 0, rdIdx := 0 } := by
      simp [tfSent, hbody, tfLastWord, hleft]
    have hbatch : batchWords s.tf = [accRead s.tf] := by
      rw [batchWords_tfSent (by omega) hsize, if_pos hbody, hsent]
      simp [batchWords]
    refine ⟨?_, by rw [clockRun, clockRun, htf, hsent]; rfl, by rw [clockRun, clockRun, htf, hsent]; rfl⟩
    simp [collect, hword, hbatch, hbody, hostData, tfLastWord, hleft]
  | succ m ih =>
    obtain ⟨hword, htf⟩ := send_clock hv ho (by simp [hbody])
    have hlast : tfLastWord s.tf = false := by simp [tfLastWord]; omega
    have hsent : tfSent s.tf = { s.tf with rdIdx := s.tf.rdIdx + 1 } := by simp [tfSent, hbody, hlast]
    have hbatch : batchWords s.tf = accRead s.tf :: batchWords (clock s).tf := by
      rw [batchWords_tfSent (by omega) hsize, if_pos hbody, htf, batchWords_tfTick, List.singleton_append]
    rw [hsent] at htf
    obtain ⟨hrest, hend⟩ := ih (s := clock s) (by rwa [clock_cfg]) (always_clock ho) (by rw [htf]; exact hbody)
      (by rw [htf]; simp; omega) (by rw [htf]; exact hsize)
    refine ⟨?_, hend⟩
    rw [collect, hrest, hword, hbatch]
    simp [hbody, hostData, hlast, List.replicate_succ]

/-- From `SEND_LENGTH` the two latched header words go out without `host_last`, and the body is next (R241, R242). -/
theorem header_goes_out {s : State} (hv : s.cfg.feVariant = .parallel) (ho : hostOpen s) (hs : s.tf.state = .sendLength) :
    hostWord s = [(s.tf.lenLatch, false)] ∧ hostWord (clock s) = [(s.tf.tsLatch, false)] ∧
      (clock (clock s)).tf = tfTick (tfTick { s.tf with state := .sendBody }) := by
  obtain ⟨hlength, htf⟩ := send_clock hv ho (by simp [hs])
  have hstamp : (clock s).tf = tfTick { s.tf with state := .sendTimestamp } := by rw [htf, tfSent, hs]
  obtain ⟨htimestamp, htf'⟩ := send_clock (by rwa [clock_cfg]) (always_clock ho) (by simp [hstamp])
  exact ⟨by simp [hlength, hs, hostData], by simp [htimestamp, hstamp, hostData], by rw [htf', hstamp]; rfl⟩

end Sys2Proof.Machine

namespace Sys2Proof.Proofs

open Sys2Proof.Machine

/-- Settles O47: two header words, then the body from its first word on. -/
theorem frameGoesOutWhole : Obligations.FrameGoesOutWhole := by
  intro s h hv ho hs
  obtain ⟨-, hmem, -, -, -, -, -, -, -, -, -, -, hzero, hsend⟩ := h
  obtain ⟨-, hacc, hlevel⟩ := (memory_wf_iff s).mp hmem
  obtain ⟨hlt, hlen⟩ := hsend (by simp [hs])
  have hread : s.tf.rdIdx = 0 := hzero (.inl hs)
  have hcount : s.tf.level - 1 + 1 = s.tf.level := by omega
  obtain ⟨hlength, hstamp, htf⟩ := header_goes_out hv ho hs
  obtain ⟨hbody, hend⟩ := body_goes_out (s.tf.level - 1) (s := clock (clock s)) (by simpa using hv)
    (always_clock (always_clock ho)) (by rw [htf]; rfl) (by simp [htf, hread, hcount]) (by simp [htf, hacc, hlevel])
  have hbatch : batchWords (clock (clock s)).tf = s.tf.acc.take s.tf.level := by simp [htf, batchWords, hread]
  rw [hcount] at hbody hend
  rw [Nat.add_comm 2]
  refine ⟨?_, hend⟩
  rw [collect, collect, hbody, hbatch, hlength, hstamp, hlen, frameLengthOf]
  rfl

end Sys2Proof.Proofs

end

/-! # TimeAccumulator: the time length, the priorities of a cycle, and the counter over runs (R122 to R131)

Without a strobe a cycle below the saturation value counts by one. The two runs follow from this one cycle: the consumed
counter by the strobes that the statement excludes, the counter of an idle capture side because nothing is selected while the
overflow flag is clear. -/

section

namespace Sys2Proof.Machine

/-! ### The reach of a time length (R122) -/

theorem two_pow_timeBits (k : Nat) : 2 ^ (4 + 8 * k) = 16 * 256 ^ k := by
  norm_num [pow_add, pow_mul]

/-! ### A cycle with neither strobe, case by case (R123, R124, R128) -/

theorem taNext_hold (c : Config) {ta : TimeAccumulator} (h : ta.overflow = true) : taNext c false false ta = ta := by
  simp [taNext, h]

theorem taNext_saturate (c : Config) {ta : TimeAccumulator} (h : ta.overflow = false) (hmax : ta.count = taMax) :
    taNext c false false ta = { count := taMax, overflow := true } := by
  simp [taNext, h, hmax]

theorem taNext_count (c : Config) {ta : TimeAccumulator} (h : ta.overflow = false) (hmax : ta.count ≠ taMax) :
    taNext c false false ta = { count := ta.count + 1, overflow := false } := by
  simp [taNext, h, hmax]

/-! ### The strobes (R171) -/

theorem idle_of_taConsume {s : State} (h : taConsume s = true) : s.fe.state = .idle := by
  obtain ⟨⟨hidle, -⟩, -⟩ : (s.fe.state = .idle ∧ s.ta.overflow = false) ∧ _ := by simpa [taConsume] using h
  exact hidle

/-- An idle encoder has no Overflow record to transfer. -/
theorem taClear_of_idle {s : State} (h : s.fe.state = .idle) : taClear s = false := by
  simp [taClear, h]

/-! ### TimeAccumulator in a clock cycle -/

theorem clock_ta_eq {s : State} (hr : s.inp.rst = false) :
    (clock s).ta = taNext s.cfg (taConsume s) (taClear s) s.ta := by
  rw [clock_ta s hr, captureCycle_ta]

/-- Neither strobe is asserted in this cycle, so that TimeAccumulator ticks. -/
abbrev noStrobe (s : State) : Prop := taConsume s = false ∧ taClear s = false

theorem clock_ta_of_noStrobe {s : State} (hr : s.inp.rst = false) (h : noStrobe s) :
    (clock s).ta = taNext s.cfg false false s.ta := by
  rw [clock_ta_eq hr, h.1, h.2]

/-- Below the saturation value one cycle without a strobe counts by one. -/
theorem clock_ta_counts {s : State} (hr : s.inp.rst = false) (h : noStrobe s) {k : Nat} (hk : k < 2 ^ 28 - 1)
    (hta : s.ta = { count := BitVec.ofNat 28 k, overflow := false }) :
    (clock s).ta = { count := BitVec.ofNat 28 (k + 1), overflow := false } := by
  have hmax : s.ta.count ≠ taMax := by
    rw [hta, ne_eq, ← BitVec.toNat_inj, BitVec.toNat_ofNat, taMax]
    simp
    omega
  rw [clock_ta_of_noStrobe hr h, taNext_count s.cfg (by rw [hta]) hmax, hta, BitVec.ofNat_add]
  rfl

/-! ### Runs of clock cycles -/

/-- The last cycle of a run apart from those before it. -/
theorem clockRun_succ (n : Nat) (s : State) : clockRun (n + 1) s = clock (clockRun n s) := by
  induction n generalizing s with
  | zero => rfl
  | succ n ih => exact ih (clock s)

theorem always_clockRun {p : Inputs → Bool} (n : Nat) {s : State} (h : always p s) : always p (clockRun n s) := by
  induction n generalizing s with
  | zero => exact h
  | succ n ih => exact ih (always_clock h)

/-- From a consume on, the counter reads the cycles since (R125, R131). -/
theorem clockRun_ta_of_consume {s : State} (hr : noReset s) (hc : taConsume s = true) {n : Nat} (hn : n ≤ 2 ^ 28 - 1)
    (hquiet : ∀ k : Nat, 1 ≤ k → k ≤ n → noStrobe (clockRun k s)) :
    (clockRun (n + 1) s).ta = { count := BitVec.ofNat 28 n, overflow := false } := by
  induction n with
  | zero =>
    rw [clockRun_succ, clockRun, clock_ta_eq (noReset_inp hr), hc, taNext_consume]
    rfl
  | succ n ih =>
    have hbefore := ih (by omega) fun k hlow hhigh => hquiet k hlow (by omega)
    rw [clockRun_succ]
    exact clock_ta_counts (noReset_inp (always_clockRun _ hr)) (hquiet _ (by omega) le_rfl) (by omega) hbefore

/-! ### An idle capture side -/

/-- No reset, no capture byte and no event now or to come, an idle encoder and no pending event. -/
abbrev captureIdle (s : State) : Prop :=
  always (fun i => !i.rst && !i.capValid && !i.evWrite) s ∧ s.fe.state = .idle ∧ s.el.new = false

theorem captureIdle_inp {s : State} (h : captureIdle s) :
    s.inp.rst = false ∧ s.inp.capValid = false ∧ s.inp.evWrite = false := by
  simpa [and_assoc] using h.1.1

/-- Without a byte or an event there is nothing to consume for, and an idle encoder clears nothing. -/
theorem noStrobe_of_captureIdle {s : State} (h : captureIdle s) : noStrobe s := by
  obtain ⟨-, hcap, -⟩ := captureIdle_inp h
  obtain ⟨-, hidle, hnew⟩ := h
  exact ⟨by simp [taConsume, hnew, hcap], taClear_of_idle hidle⟩

/-- While the overflow flag is clear the arbiter selects nothing, and the capture side stays idle. -/
theorem captureIdle_clock {s : State} (h : captureIdle s) (hflag : s.ta.overflow = false) : captureIdle (clock s) := by
  obtain ⟨hr, hcap, hwrite⟩ := captureIdle_inp h
  obtain ⟨halways, hidle, hnew⟩ := h
  have hnone : arbiter s = .none := by simp [arbiter, hidle, hflag, hnew, hcap]
  have hack : elAck s = false := elAck_of_not_event (by simp [hnone])
  refine ⟨always_clock halways, ?_, ?_⟩
  · rw [clock_fe_of_none_selected hr hidle hnone, hidle]
  · rw [clock_el_of_no_strobe hr hwrite hack, hnew]

/-- From 0 on, the counter of an idle capture side reads the number of cycles, up to the saturation value (R130). -/
theorem clockRun_ta_of_captureIdle {s : State} (h : captureIdle s) (hta : s.ta = { count := 0, overflow := false })
    {k : Nat} (hk : k ≤ 2 ^ 28 - 1) :
    captureIdle (clockRun k s) ∧ (clockRun k s).ta = { count := BitVec.ofNat 28 k, overflow := false } := by
  induction k with
  | zero => exact ⟨h, hta⟩
  | succ k ih =>
    obtain ⟨hidle, hcount⟩ := ih (by omega)
    rw [clockRun_succ]
    exact ⟨captureIdle_clock hidle (by rw [hcount]),
      clock_ta_counts (captureIdle_inp hidle).1 (noStrobe_of_captureIdle hidle) (by omega) hcount⟩

end Sys2Proof.Machine

namespace Sys2Proof.Proofs

open Sys2Proof.Machine

/-- Settles O7: `TL(c)` bytes hold `c`, and fewer reach no further than one byte less, which does not. -/
theorem timeLengthIsLeast : Obligations.TimeLengthIsLeast := by
  intro c
  obtain ⟨hholds, hless⟩ := encodedLength_bounds c
  refine ⟨by rwa [two_pow_timeBits], fun k hk => ?_⟩
  rw [two_pow_timeBits] at hk
  by_contra hshort
  have hne : encodedLength c ≠ 0 := fun h0 => by simp [h0] at hshort
  have hreach : 256 ^ k ≤ 256 ^ ((encodedLength c).toNat - 1) := Nat.pow_le_pow_right (by decide) (by omega)
  have := hless hne
  omega

/-- Settles O13: the counter of an idle capture side up to the saturation value, then the cycle that saturates. -/
theorem counterSaturatesExactly : Obligations.CounterSaturatesExactly := by
  intro s hports hidle hnew hta
  have hquiet : captureIdle s := ⟨hports, hidle, hnew⟩
  refine ⟨fun k hk => (clockRun_ta_of_captureIdle hquiet hta hk).2, fun k hk => ?_⟩
  obtain ⟨m, rfl⟩ : ∃ m, k = m + 1 := ⟨k - 1, by omega⟩
  obtain ⟨hlast, hcount⟩ := clockRun_ta_of_captureIdle hquiet hta (k := m) (by omega)
  have hmax : BitVec.ofNat 28 m = taMax := by
    obtain rfl : m = 268435455 := by omega
    rfl
  rw [clockRun_succ, clock_ta_of_noStrobe (captureIdle_inp hlast).1 (noStrobe_of_captureIdle hlast)]
  exact taNext_saturate _ (by rw [hcount]) (by rw [hcount, hmax])

/-- Settles O14. -/
theorem consumeMeasuresElapsedCycles : Obligations.ConsumeMeasuresElapsedCycles :=
  fun _ _ hr hc hn hquiet => clockRun_ta_of_consume hr hc hn hquiet

/-- Settles O9: TICK is TimeAccumulator's next state with neither strobe. -/
theorem tickCountsSaturatesOrHolds : Obligations.TickCountsSaturatesOrHolds := by
  intro s hr
  rw [exec_run hr, effect_tick]
  refine ⟨fun h => ?hold, fun h hmax => ?saturate, fun h hmax => ?count⟩
  case hold => rw [taNext_hold s.cfg h]
  case saturate => rw [taNext_saturate s.cfg h hmax]
  case count => rw [taNext_count s.cfg h hmax]

/-- Settles O10. -/
theorem consumeClearsCountAndFlag : Obligations.ConsumeClearsCountAndFlag := by
  intro s hr
  rw [exec_run hr, effect_consume, taNext_consume]

/-- Settles O11: the parameter decides what becomes of the counter. -/
theorem clearOverflowClearsFlag : Obligations.ClearOverflowClearsFlag := by
  intro s hr
  rw [exec_run hr, effect_clearOverflow, taNext_clear]
  exact ⟨fun hresets => by simp [hresets], fun hkeeps => by simp [hkeeps]⟩

/-- Settles O12: branch by branch; a consume needs an idle encoder, which clears nothing. -/
theorem timeAccumulatorFollowsItsPriorities : Obligations.TimeAccumulatorFollowsItsPriorities := by
  refine ⟨fun s hr => ⟨fun hc => ?consume, fun hc hk => ?clear, fun hc hk h => ?hold, fun hc hk h hmax => ?saturate,
    fun hc hk h hmax => ?count⟩, fun s ⟨hc, hk⟩ => ?exclusive, fun c ta => taNext_consume c true ta⟩
  case consume => rw [clock_ta_eq hr, hc, taNext_consume]
  case clear => rw [clock_ta_eq hr, hc, hk, taNext_clear]
  case hold => rw [clock_ta_of_noStrobe hr ⟨hc, hk⟩, taNext_hold s.cfg h]
  case saturate => rw [clock_ta_of_noStrobe hr ⟨hc, hk⟩, taNext_saturate s.cfg h hmax]
  case count => rw [clock_ta_of_noStrobe hr ⟨hc, hk⟩, taNext_count s.cfg h hmax]
  case exclusive => simp [taClear_of_idle (idle_of_taConsume hc)] at hk

end Sys2Proof.Proofs

end

/-! # EventLatch: its two operations and its priorities in a clock cycle (R141, R142, R143, R144) -/

section

namespace Sys2Proof.Machine

/-- In a clock cycle EventLatch follows its next-state function on the ports and strobes of that cycle (R13, R144). -/
theorem clock_el_eq {s : State} (hr : s.inp.rst = false) :
    (clock s).el = elNext s.inp.evWrite s.inp.evCode (elAck s) s.el := by
  rw [clock_el s hr, captureCycle_el]

end Sys2Proof.Machine

namespace Sys2Proof.Proofs

open Sys2Proof.Machine

/-- Settles O15: WRITE is EventLatch's next state with a write, which does not read the old contents. -/
theorem writeStoresTheEvent : Obligations.WriteStoresTheEvent := by
  intro s hr
  rw [exec_run hr, effect_write, elNext_write]

/-- Settles O16: `ev_write` decides between the acknowledge and the write that wins over it. -/
theorem ackClearsUnlessWritten : Obligations.AckClearsUnlessWritten := by
  intro s hr
  rw [exec_run hr, effect_ack]
  refine ⟨fun hw => ?acknowledged, fun hw => ?written⟩
  case acknowledged => rw [hw, elNext_ack]
  case written => rw [hw, elNext_write]

/-- Settles O17: branch by branch of R144. -/
theorem eventLatchFollowsItsPriorities : Obligations.EventLatchFollowsItsPriorities := by
  intro s hr
  rw [clock_el_eq hr]
  refine ⟨fun hw => ?write, fun hw ha => ?acknowledge, fun hw ha => ?hold⟩
  case write => rw [hw, elNext_write]
  case acknowledge => rw [hw, ha, elNext_ack]
  case hold => rw [hw, ha, elNext_hold]

end Sys2Proof.Proofs

end

/-! # FramingEncoder: its selections, its strobes, the encoding it sends, and the multiplexer behind it (R151 to R171, R206)

The arbiter's outcome with its strobes and the record it loads are said once, case by case of its priority; the selections
follow. The two variants send the same bytes: the serial one keeps "the byte sent and the bytes still to send are the bytes
there were to send" over a cycle, the parallel one packs them into one slot, which the multiplexer passes on. -/

section

namespace Sys2Proof.Machine

/-! ### The arbiter's outcome and its strobes, in priority order (R151, R155, R171) -/

/-- What the arbiter does in a cycle: its outcome, `ta_consume`, `el_ack` and `cap_ready`. -/
abbrev arbiterDoes (s : State) (outcome : Selection) (consume ack ready : Bool) : Prop :=
  arbiter s = outcome ∧ taConsume s = consume ∧ elAck s = ack ∧ capReady s = ready

theorem arbiterDoes_busy {s : State} (h : s.fe.state ≠ .idle) : arbiterDoes s .none false false false := by
  simp [arbiterDoes, arbiter, taConsume, elAck, capReady, h]

section Idle

variable {s : State} (hidle : s.fe.state = .idle)

include hidle

theorem arbiterDoes_overflow (hov : s.ta.overflow = true) : arbiterDoes s .overflow false false false := by
  simp [arbiterDoes, arbiter, taConsume, elAck, capReady, hidle, hov]

theorem arbiterDoes_event (hov : s.ta.overflow = false) (hnew : s.el.new = true) :
    arbiterDoes s .event true true false := by
  simp [arbiterDoes, arbiter, taConsume, elAck, capReady, hidle, hov, hnew]

theorem arbiterDoes_capture (hov : s.ta.overflow = false) (hnew : s.el.new = false) :
    arbiterDoes s (if s.inp.capValid then .capture else .none) s.inp.capValid false (!s.inp.rst) := by
  simp [arbiterDoes, arbiter, taConsume, elAck, capReady, hidle, hov, hnew]

/-! ### The state each selection leaves (R152, R153, R154) -/

theorem select_overflow (hov : s.ta.overflow = true) :
    select s = { s with fe := encoderHolding s.cfg s.fe ⟨.overflow, taMax, 3, 0⟩ } := by
  obtain ⟨harb, hconsume, hack, -⟩ := arbiterDoes_overflow hidle hov
  simp [select, selectedRecord, harb, hconsume, hack, feLoad_eq_encoderHolding]

theorem select_event (hov : s.ta.overflow = false) (hnew : s.el.new = true) :
    select s = withEventSelected s ⟨.event, s.ta.count, encodedLength s.ta.count, s.el.code⟩ := by
  obtain ⟨harb, hconsume, hack, -⟩ := arbiterDoes_event hidle hov hnew
  simp [select, selectedRecord, harb, hconsume, hack, feLoad_eq_encoderHolding, withEventSelected, taNext_consume,
    elNext]

theorem select_capture (hov : s.ta.overflow = false) (hnew : s.el.new = false) (hcap : s.inp.capValid = true) :
    select s = withCaptureSelected s
      ⟨if s.inp.capCtl then .control else .data, s.ta.count, encodedLength s.ta.count, s.inp.capData⟩ := by
  obtain ⟨harb, hconsume, hack, -⟩ := arbiterDoes_capture hidle hov hnew
  simp [select, selectedRecord, harb, hcap, hconsume, hack, feLoad_eq_encoderHolding, withCaptureSelected,
    taNext_consume]

end Idle

/-! ### The last transfer of an Overflow record (R160, R166, R171) -/

theorem taClear_iff_recFire {s : State} (h : variantInv s) (hv : s.cfg.feVariant = .parallel) :
    taClear s = true ↔ recFire s = true ∧ s.fe.typ = .overflow := by
  rcases h.1 hv with hidle | hemit
  · simp [taClear, recFire, recValid, hidle]
  · simp [taClear, recFire, recValid, hemit, and_comm]

theorem taClear_iff_serFire {s : State} (h : variantInv s) (hr : s.inp.rst = false) (hv : s.cfg.feVariant = .serial) :
    taClear s = true ↔ serFire s = true ∧ s.fe.typ = .overflow ∧
      (s.fe.state = .timestamp ∧ s.fe.rem = 1 ∨ s.fe.state = .header ∧ s.fe.len = 0) := by
  cases hs : s.fe.state with
  | idle => simp [taClear, hs]
  | header => simp [taClear, serFire, serValid, hr, hs, and_comm, and_left_comm]
  | timestamp => simp [taClear, serFire, serValid, hr, hs, and_comm, and_left_comm]
  | payload => simp [taClear, hs]
  | emit => exact absurd hs (h.2 hv)

/-! ### The bytes the serial variant still has to send (R157, R158, R159) -/

/-- What is left to send of the record in flight, from the registers of the serial variant. -/
def bytesToSend (fe : FramingEncoder) : List Byte :=
  match fe.state with
  | .idle => []
  | .header => (feRecord fe).bytes
  | .timestamp => unpackNat fe.rem.toNat fe.shift.toNat ++ payloadBytes fe.typ fe.payload
  | .payload => [fe.payload]
  | .emit => []

theorem bytesToSend_of_header {fe : FramingEncoder} (h : fe.state = .header) :
    bytesToSend fe = enc fe.typ fe.delta fe.len fe.payload := by
  rw [bytesToSend, h]
  rfl

theorem bytesToSend_of_timestamp {fe : FramingEncoder} (h : fe.state = .timestamp) :
    bytesToSend fe = unpackNat fe.rem.toNat fe.shift.toNat ++ payloadBytes fe.typ fe.payload := by
  rw [bytesToSend, h]

theorem bytesToSend_of_payload {fe : FramingEncoder} (h : fe.state = .payload) : bytesToSend fe = [fe.payload] := by
  rw [bytesToSend, h]

theorem bytesToSend_of_idle {fe : FramingEncoder} (h : fe.state = .idle) : bytesToSend fe = [] := by
  rw [bytesToSend, h]

/-- Behind the last timestamp byte only the payload byte is left, if the type has one. -/
theorem bytesToSend_afterTimestamp {fe : FramingEncoder}
    (h : fe.state = if fe.typ ≠ .overflow then .payload else .idle) :
    bytesToSend fe = payloadBytes fe.typ fe.payload := by
  cases ht : fe.typ <;> simp only [ht] at h
  case overflow => exact bytesToSend_of_idle h
  all_goals exact bytesToSend_of_payload h

/-! What an accepted byte does, state by state (R157, R158, R159). -/

theorem feSerialAdvance_header {fe : FramingEncoder} (h : fe.state = .header) (hlen : fe.len ≠ 0) :
    feSerialAdvance fe = { fe with state := .timestamp } := by
  rw [feSerialAdvance, h]
  exact if_pos hlen

theorem feSerialAdvance_bareHeader {fe : FramingEncoder} (h : fe.state = .header) (hlen : fe.len = 0) :
    feSerialAdvance fe = { fe with state := if fe.typ ≠ .overflow then .payload else .idle } := by
  cases ht : fe.typ <;> simp [feSerialAdvance, h, hlen, ht]

/-- A sent timestamp byte leaves the shift register; behind the last one the record's payload comes or nothing. -/
theorem feSerialAdvance_timestamp {fe : FramingEncoder} (h : fe.state = .timestamp) :
    feSerialAdvance fe = { fe with
      shift := fe.shift >>> 8
      rem := fe.rem - 1
      state := if fe.rem = 1 then (if fe.typ ≠ .overflow then .payload else .idle) else .timestamp } := by
  rw [feSerialAdvance, h]

theorem feSerialAdvance_payload {fe : FramingEncoder} (h : fe.state = .payload) :
    feSerialAdvance fe = { fe with state := .idle } := by
  rw [feSerialAdvance, h]

/-- Timestamp bytes still to send: the next one is the low byte of the shift register (R158). -/
theorem unpackNat_shift {shift : BitVec 24} {rem : BitVec 2} (h : 1 ≤ rem.toNat) :
    unpackNat rem.toNat shift.toNat = shift.setWidth 8 :: unpackNat (rem - 1).toNat (shift >>> 8).toNat := by
  have hdec : rem.toNat = (rem - 1).toNat + 1 := by bv_omega
  rw [hdec, unpackNat, BitVec.toNat_ushiftRight, Nat.shiftRight_eq_div_pow]
  rfl

/-- A byte presented on the serial port is the first of those still to send; accepting it leaves the others. -/
theorem bytesToSend_eq_cons {s : State} (h : shiftInv s)
    (hs : s.fe.state = .header ∨ s.fe.state = .timestamp ∨ s.fe.state = .payload) :
    bytesToSend s.fe = serData s :: bytesToSend (feSerialAdvance s.fe) := by
  rcases hs with hs | hs | hs
  · have hdata : serData s = headerByte s.fe.typ s.fe.delta s.fe.len := by rw [serData, hs]
    rw [bytesToSend_of_header hs, enc, hdata]
    by_cases hlen : s.fe.len = 0
    · rw [feSerialAdvance_bareHeader hs hlen, bytesToSend_afterTimestamp rfl, hlen]
      rfl
    · obtain ⟨hrem, hshift⟩ := h.1 hs
      rw [feSerialAdvance_header hs hlen, bytesToSend_of_timestamp rfl, timestampBytes, hrem, hshift]
  · have hdata : serData s = s.fe.shift.setWidth 8 := by rw [serData, hs]
    obtain ⟨hpos, -⟩ := h.2 hs
    rw [bytesToSend_of_timestamp hs, hdata, unpackNat_shift hpos, List.cons_append, feSerialAdvance_timestamp hs]
    by_cases hlast : s.fe.rem = 1
    · rw [if_pos hlast, bytesToSend_afterTimestamp rfl, hlast]
      rfl
    · rw [if_neg hlast, bytesToSend_of_timestamp rfl]
  · have hdata : serData s = s.fe.payload := by rw [serData, hs]
    rw [bytesToSend_of_payload hs, hdata, feSerialAdvance_payload hs, bytesToSend_of_idle rfl]

/-! ### The run that sends them -/

/-- No reset and a ready byte consumer, in this cycle and in every cycle to come. -/
abbrev consumerOpen (s : State) : Prop := always (fun i => !i.rst && i.serReady) s

/-- One cycle of a sending state with the consumer ready: the byte presented is transferred, and the encoder goes on. -/
theorem serial_clock {s : State} (ho : consumerOpen s)
    (hs : s.fe.state = .header ∨ s.fe.state = .timestamp ∨ s.fe.state = .payload) :
    serialByte s = [serData s] ∧ (clock s).fe = feSerialAdvance s.fe := by
  obtain ⟨hr, hready⟩ : s.inp.rst = false ∧ s.inp.serReady = true := by simpa using ho.1
  refine ⟨by simp [serialByte, serFire, serValid_of_sending hr hs, hready], ?_⟩
  rw [clock_fe s hr, captureCycle_fe, feNext_serial hs, if_pos hready]

/-- With `n` bytes still to send and the consumer ready, `n` cycles send them in order and end in `IDLE`. -/
theorem serial_sends (n : Nat) {s : State} (h : Inv s) (hv : s.cfg.feVariant = .serial) (ho : consumerOpen s)
    (hn : (bytesToSend s.fe).length = n) :
    collect serialByte n s = bytesToSend s.fe ∧ (clockRun n s).fe.state = .idle := by
  induction n generalizing s with
  | zero =>
    obtain ⟨-, -, -, hvar, -, hshift, -⟩ := h
    have hnil := List.eq_nil_of_length_eq_zero hn
    refine ⟨hnil.symm, ?_⟩
    by_contra hidle
    rw [bytesToSend_eq_cons hshift (FeState.eq_sending hidle (hvar.2 hv))] at hnil
    exact List.cons_ne_nil _ _ hnil
  | succ n ih =>
    obtain ⟨-, -, -, hvar, -, hshift, -⟩ := id h
    have hidle : s.fe.state ≠ .idle := fun hidle => by simp [bytesToSend_of_idle hidle] at hn
    have hsend := FeState.eq_sending hidle (hvar.2 hv)
    obtain ⟨hbyte, hfe⟩ := serial_clock ho hsend
    have hcons := bytesToSend_eq_cons hshift hsend
    rw [← hfe] at hcons
    obtain ⟨hrest, hend⟩ := ih (inv_clock h) (by rwa [clock_cfg]) (always_clock ho)
      (by rw [hcons, List.length_cons] at hn; omega)
    exact ⟨by rw [collect, hbyte, hrest, hcons, List.singleton_append], hend⟩

/-! ### The slot of the parallel variant (R166) -/

/-- In `EMIT` the length code names the record's length, and that many bytes of the slot are the record's encoding. -/
theorem unpack_recSlot {s : State} (h : recordInv s) (he : s.fe.state = .emit) :
    unpack (recSlot s) (recordLength (recLencode s)) = (feRecord s.fe).bytes := by
  have hvalid : recValid s = true := by simp [recValid, he]
  obtain ⟨hlow, hhigh⟩ := byteCount_bounds (r := feRecord s.fe) (h (by simp [he]))
  have hbytes := length_recordBytes (feRecord s.fe)
  have hlen : recordLength (recLencode s) = (feRecord s.fe).bytes.length := by
    rw [hbytes, recordLength, recLencode, if_pos hvalid, BitVec.toNat_ofNat]
    change (byteCount (feRecord s.fe).typ (feRecord s.fe).len - 2) % 2 ^ 2 + 2 = _
    omega
  have hfits : 256 ^ (feRecord s.fe).bytes.length ≤ 2 ^ 40 :=
    Nat.pow_le_pow_right (n := 256) (by decide) (show _ ≤ 5 by omega)
  rw [hlen, recSlot, if_pos hvalid, unpack_pack 40 _ hfits]

/-! ### The multiplexer (R206, R207) -/

theorem recValid_iff (s : State) : recValid s = true ↔ s.fe.state = .emit := by simp [recValid]

theorem rpgValid_iff (s : State) : rpgValid s = true ↔ s.rpg.state = .pattern := by simp [rpgValid, rpgBusy]

/-- Outside a record the generator has priority. -/
theorem muxSel_of_normal {s : State} (h : wcMidRecord s = false) : muxSel s = rpgBusy s := by
  simp [muxSel, h, rpgValid]

/-- Inside a record the recorded selection is held. -/
theorem muxSel_of_midRecord {s : State} (h : wcMidRecord s = true) : muxSel s = s.muxSelQ := by
  rw [muxSel, if_pos h]

section Sources

variable {s : State}

/-- With the generator selected WidthConverter sees it alone. -/
theorem generator_selected (h : muxSel s = true) :
    wciValid s = rpgValid s ∧ rpgReady s = wciReady s ∧ rpgFire s = wciFire s ∧ recReady s = false ∧
      recFire s = false := by
  simp [wciValid, rpgReady, rpgFire, wciFire, recReady, recFire, h]

/-- With the encoder selected WidthConverter sees it alone. -/
theorem encoder_selected (h : muxSel s = false) :
    wciValid s = recValid s ∧ recReady s = wciReady s ∧ recFire s = wciFire s ∧ rpgReady s = false ∧
      rpgFire s = false := by
  simp [wciValid, rpgReady, rpgFire, wciFire, recReady, recFire, h]

theorem wciBytes_of_generator (hc : configLegal s.cfg = true) (h : muxSel s = true) :
    wciBytes s = literalOf s.cfg := by
  rw [wciBytes, wciSlot, wciLencode, if_pos h, if_pos h, recordLength_rpgLencode hc]
  rfl

theorem wciBytes_of_encoder (hrec : recordInv s) (hval : recValid s = true) (h : muxSel s = false) :
    wciBytes s = (feRecord s.fe).bytes := by
  rw [wciBytes, wciSlot, wciLencode, h]
  exact unpack_recSlot hrec ((recValid_iff s).mp hval)

end Sources

end Sys2Proof.Machine

namespace Sys2Proof.Proofs

open Sys2Proof.Machine

/-- Settles O25: in `HEADER` the bytes to send are the whole encoding, as many as `byteCount` cycles. -/
theorem serialVariantSendsTheEncoding : Obligations.SerialVariantSendsTheEncoding := by
  refine ⟨fun s hidle => by simp [serValid, hidle], fun s h hv ho hs => ?_⟩
  have hcount : (bytesToSend s.fe).length = byteCount s.fe.typ s.fe.len := by
    rw [bytesToSend_of_header hs]
    exact length_recordBytes (feRecord s.fe)
  rw [← bytesToSend_of_header hs]
  exact serial_sends _ h hv ho hcount

/-- Settles O26. -/
theorem parallelVariantPresentsTheEncoding : Obligations.ParallelVariantPresentsTheEncoding := by
  intro s h hemit
  obtain ⟨-, -, -, -, hrec, -⟩ := h
  exact ⟨(recValid_iff s).mpr hemit, unpack_recSlot hrec hemit⟩

/-- Settles O18: the operation and the form are the same selection, of the record with forced constants. -/
theorem selectOverflowLoadsConstants : Obligations.SelectOverflowLoadsConstants := by
  intro s hr hidle hov
  obtain ⟨harb, hconsume, hack, hready⟩ := arbiterDoes_overflow hidle hov
  have hsel : selectedRecord s = some ⟨.overflow, taMax, 3, 0⟩ := by simp [selectedRecord, harb]
  refine ⟨hconsume, hack, hready, taClear_of_idle hidle, ?operation, ?form⟩
  case operation =>
    rw [exec_run hr, effect_selectOverflow, harb]
    exact congrArg _ (select_overflow hidle hov)
  case form =>
    rw [exec_of_selectedRecord hr rfl hsel]
    exact congrArg _ (select_overflow hidle hov)

/-- Settles O19. -/
theorem selectEventTakesThePendingEvent : Obligations.SelectEventTakesThePendingEvent := by
  intro s hr hidle hov hnew
  obtain ⟨harb, hconsume, hack, hready⟩ := arbiterDoes_event hidle hov hnew
  refine ⟨hconsume, hack, hready, ?_⟩
  rw [exec_run hr, effect_selectEvent, harb]
  exact congrArg _ (select_event hidle hov hnew)

/-- Settles O20: `cap_ctl` names both the operation that applies and the type of the record. -/
theorem selectCaptureTakesTheByte : Obligations.SelectCaptureTakesTheByte := by
  intro s hr hidle hov hnew hcap
  obtain ⟨harb, hconsume, hack, hready⟩ := arbiterDoes_capture hidle hov hnew
  have hload := select_capture hidle hov hnew hcap
  rw [hcap, if_pos rfl] at harb
  rw [hr, Bool.not_false] at hready
  refine ⟨hconsume.trans hcap, hack, hready, by rw [capFire, hcap, hready]; rfl, fun hctl => ?data, fun hctl => ?control⟩
  case data =>
    rw [hctl] at hload
    rw [exec_run hr, effect_selectData, harb, hctl]
    exact congrArg _ hload
  case control =>
    rw [hctl] at hload
    rw [exec_run hr, effect_selectControl, harb, hctl]
    exact congrArg _ hload

/-- Settles O23: a strobe that is not the arbiter's outcome selects nothing, nor does a form of another record. -/
theorem otherSelectionsChangeNothing : Obligations.OtherSelectionsChangeNothing := by
  intro s hr
  simp only [exec_run hr, next_inj, effect_selectOverflow, effect_selectEvent, effect_selectData, effect_selectControl]
  have idle {b : Bool} (h : b = false) : selectIf b s = s := by rw [h]; rfl
  refine ⟨fun h => idle (by simpa using h), fun h => idle (by simpa using h), fun h => idle ?data,
    fun h => idle ?control, fun i r hi h => ?form⟩
  case data => rcases h with h | h <;> simp [h]
  case control => rcases h with h | h <;> simp [h]
  case form => rw [effect_record hi, selectRecord, if_neg h]

/-- Settles O24: the arbiter case by case of its priority, then `ta_clear` by the variant's states. -/
theorem arbiterHasStrictPriority : Obligations.ArbiterHasStrictPriority := by
  refine fun s => ⟨arbiterDoes_busy, arbiterDoes_overflow, arbiterDoes_event, arbiterDoes_capture,
    fun h _ hv => ?parallel, fun h hr hv => ?serial⟩
  case parallel =>
    obtain ⟨-, -, -, hvar, -⟩ := h
    exact taClear_iff_recFire hvar hv
  case serial =>
    obtain ⟨-, -, -, hvar, -⟩ := h
    exact taClear_iff_serFire hvar hr hv

/-- Settles O32: the selection and its record, then what each source passes. -/
theorem multiplexerHoldsInsideARecord : Obligations.MultiplexerHoldsInsideARecord := by
  intro s hr hv
  have hrecorded : (clock s).muxSelQ = muxSel s := by rw [clock_muxSelQ s hr hv, transportCycle_muxSelQ]
  refine ⟨muxSel_of_normal, fun hmid => (muxSel_of_midRecord hmid).trans hrecorded, hrecorded, rpgValid_iff s,
    recValid_iff s, fun hsel => ?generator, fun hsel => ?encoder⟩
  case generator =>
    obtain ⟨hvalid, hready, hfire, hrecReady, hrecFire⟩ := generator_selected hsel
    exact ⟨hvalid, hready, hfire, hrecReady, hrecFire, fun hc => wciBytes_of_generator hc hsel⟩
  case encoder =>
    obtain ⟨hvalid, hready, hfire, hrpgReady, hrpgFire⟩ := encoder_selected hsel
    refine ⟨hvalid, hready, hfire, hrpgReady, hrpgFire, fun h hval => ?_⟩
    obtain ⟨-, -, -, -, hrec, -⟩ := h
    exact wciBytes_of_encoder hrec hval hsel

end Sys2Proof.Proofs

end

/-! # The handshake at WidthConverter: what it takes by the bytes on hand, RSY and PUSH (R182 to R188, R203, R206, R220)

RSY presents the literal through the same multiplexer that a clock cycle presents its record through. So what WidthConverter
does with a presented record is said once, of `wciBytes`, and serves both the clock cycle and RSY. -/

section

namespace Sys2Proof.Machine

/-! ### The presented record at WidthConverter's input side, case by case (R183 to R188) -/

section Presented

variable {s : State}

/-- The length code of the presented record names how many bytes it has (R181). -/
theorem length_wciBytes (s : State) : (wciBytes s).length = recordLength (wciLencode s) := by
  rw [wciBytes, length_unpack]

/-- WidthConverter after its input side took what is presented; the holding register is not drained (R194). -/
def wcTaken (s : State) : WidthConverter := wcTake (wciSlot s) (wciLencode s) s.wc

theorem wciReady_iff (s : State) :
    wciReady s = true ↔
      (s.wc.state = .normal ∧ s.wc.remain.toNat + (wciBytes s).length < 4) ∨
      (s.wc.state = .normal ∧ s.wc.remain.toNat + (wciBytes s).length < 8 ∧ s.wc.outValid = false) ∨
      (s.wc.state = .sendExtra ∧ s.wc.outValid = false) := by
  rw [length_wciBytes]
  exact wcReady_iff _ _

/-- The record fits the carry (R184). -/
theorem wcTaken_carry (hn : s.wc.state = .normal) (hlt : s.wc.remain.toNat + (wciBytes s).length < 4) :
    wcTaken s = { s.wc with
      carry := pack 24 (unpack s.wc.carry s.wc.remain.toNat ++ wciBytes s)
      remain := BitVec.ofNat 2 (s.wc.remain.toNat + (wciBytes s).length) } := by
  rw [length_wciBytes] at hlt ⊢
  simp only [wcTaken, wcTake, hn, if_pos hlt]
  rfl

/-- The record fills one word (R185). -/
theorem wcTaken_load (hn : s.wc.state = .normal) (hge : 4 ≤ s.wc.remain.toNat + (wciBytes s).length)
    (hlt : s.wc.remain.toNat + (wciBytes s).length < 8) (hv : s.wc.outValid = false) :
    wcTaken s = { s.wc with
      outWord := pack 32 ((unpack s.wc.carry s.wc.remain.toNat ++ wciBytes s).take 4)
      outValid := true
      carry := pack 24 ((unpack s.wc.carry s.wc.remain.toNat ++ wciBytes s).drop 4)
      remain := BitVec.ofNat 2 (s.wc.remain.toNat + (wciBytes s).length - 4) } := by
  rw [length_wciBytes] at hge hlt ⊢
  simp only [wcTaken, wcTake, hn, hv, if_neg hge.not_gt, if_pos hlt]
  rfl

/-- The first of the record's two words (R187). -/
theorem wcTaken_begin (hn : s.wc.state = .normal) (hge : 8 ≤ s.wc.remain.toNat + (wciBytes s).length)
    (hv : s.wc.outValid = false) :
    wcTaken s =
      { outWord := pack 32 ((unpack s.wc.carry s.wc.remain.toNat ++ wciBytes s).take 4)
        outValid := true, carry := 0, remain := 0, state := .sendExtra } := by
  rw [length_wciBytes] at hge
  have hnotCarry : ¬ s.wc.remain.toNat + recordLength (wciLencode s) < 4 := by omega
  simp only [wcTaken, wcTake, hn, hv, if_neg hnotCarry, if_neg hge.not_gt]
  rfl

/-- The second of the record's two words (R188). -/
theorem wcTaken_finish (hx : s.wc.state = .sendExtra) (hv : s.wc.outValid = false) :
    wcTaken s = { s.wc with
      outWord := pack 32 ((wciBytes s).drop 1), outValid := true, state := .normal } := by
  simp only [wcTaken, wcTake, hx, hv]
  rfl

/-- The record waits for the holding register (R183). -/
theorem wcTaken_wait (hv : s.wc.outValid = true)
    (hneed : s.wc.state = .sendExtra ∨ 4 ≤ s.wc.remain.toNat + (wciBytes s).length) : wcTaken s = s.wc := by
  rw [length_wciBytes] at hneed
  obtain ⟨hn, hlt, -⟩ | ⟨-, -, -, he, -⟩ | ⟨-, -, he, -⟩ | ⟨-, he, -⟩ | ⟨-, -, e⟩ :=
    wcTake_cases (wciSlot s) (wciLencode s) s.wc
  · rcases hneed with hx | hge
    · simp [hn] at hx
    · omega
  · simp [hv] at he
  · simp [hv] at he
  · simp [hv] at he
  · exact e

/-- In a cycle with a record presented the input side takes, then the holding register drains (R182, R194). -/
theorem clock_wc_of_presented (hr : s.inp.rst = false) (hv : s.cfg.feVariant = .parallel) (hval : wciValid s = true) :
    (clock s).wc = { wcTaken s with outValid := !wcoFire s && (wcTaken s).outValid } := by
  rw [clock_wc s hr hv, transportCycle_wc, wcNext, if_pos hval, wcDrain_eq]
  rfl

/-- Nothing leaves an empty holding register. -/
theorem wcoFire_of_empty (hv : s.wc.outValid = false) : wcoFire s = false := by
  simp [wcoFire, wcoValid, hv]

end Presented

/-! ### RSY at the multiplexer (R203, R206) -/

/-- While a burst is on, the generator counts accepted transfers (R203). -/
theorem rpgNext_of_pattern {rpg : ResyncGenerator} (h : rpg.state = .pattern) (c : Config) (fire : Bool) :
    rpgNext c false fire rpg = if fire then generatorAfterTransfer rpg else rpg := by
  simp [rpgNext, h, generatorAfterTransfer]

/-- In a burst and outside a record the generator is selected. -/
theorem muxSel_of_pattern {s : State} (hp : s.rpg.state = .pattern) (hn : s.wc.state = .normal) : muxSel s = true := by
  rw [muxSel_of_normal (by simp [wcMidRecord, hn])]
  exact (rpgValid_iff s).mpr hp

/-- Inside a two-word record the recorded source stays selected (R207). -/
theorem muxSel_of_sendExtra {s : State} (hx : s.wc.state = .sendExtra) : muxSel s = s.muxSelQ :=
  muxSel_of_midRecord (by simp [wcMidRecord, hx])

section Rsy

variable {s : State} (hr : s.inp.rst = false) (hv : s.cfg.feVariant = .parallel)

include hr hv

/-- RSY with the generator selected: WidthConverter's input side takes the literal, and only its acceptance is counted. -/
theorem exec_rsy_of_selected (hp : s.rpg.state = .pattern) (hsel : muxSel s = true) :
    exec .rsy s = .next { s with
      rpg := if wciReady s then generatorAfterTransfer s.rpg else s.rpg
      muxSelQ := true
      wc := wcTaken s } := by
  have hval := (rpgValid_iff s).mpr hp
  have hfire : rpgFire s = wciReady s := by simp [rpgFire, rpgReady, hval, hsel]
  rw [exec_run hr, ← after_run hr, after_rsy_of_presented hr hv hval hsel, rpgNext_of_pattern hp, hfire, wcTaken, wciSlot,
    wciLencode, hsel]
  rfl

/-- RSY with the generator idle or not selected does nothing (log entry 11). -/
theorem exec_rsy_of_not_presented (h : muxSel s = false ∨ rpgValid s = false) : exec .rsy s = .next s := by
  rw [exec_run hr, ← after_run hr, after_rsy hr hv]
  obtain ⟨hsel, hval, -⟩ | ⟨-, e⟩ := presentLiteral_cases s
  · simp [hsel, hval] at h
  · rw [e]

end Rsy

/-! ### PUSH and the refused counter (R217, R220) -/

theorem exec_push {s : State} (hr : s.inp.rst = false) (hv : s.cfg.feVariant = .parallel) :
    exec .push s = .next (writePort s) := by
  rw [exec_run hr, ← after_run hr, after_push hr hv]

theorem bbFull_iff (s : State) : bbFull s = true ↔ s.cfg.bbDepth ≤ s.bb.queue.length := by simp [bbFull]

/-- A full queue refuses the word and counts the cycle. -/
theorem writePort_of_full {s : State} (hw : s.wc.outValid = true) (hfull : s.cfg.bbDepth ≤ s.bb.queue.length) :
    writePort s = { s with bb := { s.bb with refused := saturatingIncrement s.bb.refused } } := by
  obtain ⟨he, -⟩ | ⟨-, hroom, -⟩ | ⟨-, -, e⟩ := writePort_cases s
  · simp [hw] at he
  · simp [(bbFull_iff s).mpr hfull] at hroom
  · exact e

theorem saturatingIncrement_of_lt {n : BitVec 32} (h : n.toNat < 2 ^ 32 - 1) : saturatingIncrement n = n + 1 := by
  refine if_neg fun hn => ?_
  subst hn
  exact absurd h (by decide)

theorem saturatingIncrement_of_max {n : BitVec 32} (h : n.toNat = 2 ^ 32 - 1) : saturatingIncrement n = n := by
  have hn : n = 0xFFFFFFFF := BitVec.eq_of_toNat_eq h
  rw [saturatingIncrement, if_pos hn, hn]

end Sys2Proof.Machine

namespace Sys2Proof.Proofs

open Sys2Proof.Machine

/-- Settles O30: the selected generator presents the literal, and WidthConverter's case decides whether it is counted. -/
theorem literalTransferCountsDown : Obligations.LiteralTransferCountsDown := by
  intro s hr hc hv hp hn
  have hsel := muxSel_of_pattern hp hn
  have hbytes : wciBytes s = literalOf s.cfg := wciBytes_of_generator hc hsel
  have hlen : (wciBytes s).length = s.cfg.resyncLen.toNat := by rw [hbytes, literalOf, length_unpack]
  rw [exec_rsy_of_selected hr hv hp hsel, ← hlen, ← hbytes]
  refine ⟨fun hlt => ?carry, fun hge hlt hout => ?load, fun hge hout => ?wait⟩
  case carry => rw [if_pos ((wciReady_iff s).mpr (.inl ⟨hn, hlt⟩)), wcTaken_carry hn hlt]
  case load => rw [if_pos ((wciReady_iff s).mpr (.inr (.inl ⟨hn, hlt, hout⟩))), wcTaken_load hn hge hlt hout]
  case wait =>
    have hwaits : wciReady s = false := wcReady_of_outValid hout (.inr (length_wciBytes s ▸ hge))
    rw [hwaits, wcTaken_wait hout (.inr hge)]
    rfl

/-- Settles O31: the two words of a literal with eight bytes on hand, then the cases in which the literal is not presented. -/
theorem literalInTheTwoWordCase : Obligations.LiteralInTheTwoWordCase := by
  intro s hr hc hv
  refine ⟨fun hp hn hsum hout => ?first, fun hp hx hq hout => ?second, fun hidle => ?idle, fun hx hq => ?unselected⟩
  case first =>
    have hsel := muxSel_of_pattern hp hn
    have hbytes : wciBytes s = literalOf s.cfg := wciBytes_of_generator hc hsel
    have hge : 8 ≤ s.wc.remain.toNat + (wciBytes s).length := by
      rw [hbytes, literalOf, length_unpack, hsum]
    have hbegun : wciReady s = false := wcReady_of_eight hn (length_wciBytes s ▸ hge)
    rw [exec_rsy_of_selected hr hv hp hsel, hbegun, wcTaken_begin hn hge hout, hbytes]
    rfl
  case second =>
    have hsel : muxSel s = true := (muxSel_of_sendExtra hx).trans hq
    rw [exec_rsy_of_selected hr hv hp hsel, if_pos ((wciReady_iff s).mpr (.inr (.inr ⟨hx, hout⟩))),
      wcTaken_finish hx hout, wciBytes_of_generator hc hsel, ← hq]
  case idle => exact exec_rsy_of_not_presented hr hv (.inr (by simp [rpgValid, rpgBusy, hidle]))
  case unselected => exact exec_rsy_of_not_presented hr hv (.inl ((muxSel_of_sendExtra hx).trans hq))

/-- Settles O35: the cases of the input side, with the drain, which meets no load (R194). -/
theorem widthConverterTakesByBytesOnHand : Obligations.WidthConverterTakesByBytesOnHand := by
  intro s hr hv hval
  have hfire : wciFire s = wciReady s := by rw [wciFire, hval, Bool.true_and]
  rw [clock_wc_of_presented hr hv hval, hfire]
  refine ⟨wciReady_iff s, fun hn hlt => ?carry, fun hn hout hge hlt => ?load, fun hn hout hsum => ?begin,
    fun hx hout => ?finish, fun hout hneed => ?wait⟩
  case carry => rw [wcTaken_carry hn hlt, Bool.and_comm]
  case load => rw [wcTaken_load hn hge hlt hout, wcoFire_of_empty hout]; rfl
  case begin => rw [wcTaken_begin hn hsum.ge hout, wcoFire_of_empty hout]; rfl
  case finish => rw [wcTaken_finish hx hout, wcoFire_of_empty hout]; rfl
  case wait => rw [wcTaken_wait hout hneed.symm, hout, Bool.and_true]

/-- Settles O37: the write port by the queue's room, then the counter below and at saturation. -/
theorem pushMovesOrCountsTheWord : Obligations.PushMovesOrCountsTheWord := by
  intro s hr hv
  rw [exec_push hr hv]
  refine ⟨fun hw hroom => ?accepted, fun hw hfull hlt => ?counted, fun hw hfull hmax => ?saturated, fun hw => ?nothing⟩
  case accepted =>
    obtain ⟨he, -⟩ | ⟨-, -, e⟩ | ⟨-, hfull, -⟩ := writePort_cases s
    · simp [hw] at he
    · rw [e]
    · exact absurd ((bbFull_iff s).mp hfull) hroom.not_ge
  case counted => rw [writePort_of_full hw hfull, saturatingIncrement_of_lt hlt]
  case saturated => rw [writePort_of_full hw hfull, saturatingIncrement_of_max hmax]
  case nothing =>
    obtain ⟨-, e⟩ | ⟨he, -⟩ | ⟨he, -⟩ := writePort_cases s
    · rw [e]
    · simp [hw] at he
    · simp [hw] at he

end Sys2Proof.Proofs

end

/-! # A burst of ResyncPatternGenerator: its start, its hold on the multiplexer and what it sends (R202 to R204, R207, R209) -/

section

namespace Sys2Proof.Machine

/-! ### START (R202, R204) -/

theorem exec_start {s : State} (hr : s.inp.rst = false) (hv : s.cfg.feVariant = .parallel) :
    exec .start s = .next { s with rpg := rpgNext s.cfg true false s.rpg } := by
  rw [exec_run hr, ← after_run hr, after_start hr hv]

theorem rpgNext_start_of_idle {rpg : ResyncGenerator} {c : Config} (h : rpg.state = .idle) (hn : c.resyncRepeat ≠ 0)
    (fire : Bool) : rpgNext c true fire rpg = { state := .pattern, repeats := c.resyncRepeat } := by
  simpa [rpgNext, h] using fun hz => absurd hz hn

/-- A count of 0 starts no burst (R202). -/
theorem rpgNext_of_no_repeats {rpg : ResyncGenerator} {c : Config} (h : rpg.state = .idle) (hz : c.resyncRepeat = 0)
    (start fire : Bool) : rpgNext c start fire rpg = rpg := by
  simp [rpgNext, h, hz]

/-! ### The source of a half-taken record -/

/-- A record half taken is the generator's (R207); so outside a record in particular. -/
abbrev noEncoderRecordBegun (s : State) : Prop := s.wc.state = .sendExtra → s.muxSelQ = true

/-- In a burst only a record that the encoder began can keep the generator from the multiplexer (R209). -/
theorem muxSel_of_burst {s : State} (hp : s.rpg.state = .pattern) (h : noEncoderRecordBegun s) : muxSel s = true := by
  cases hx : s.wc.state with
  | normal => exact muxSel_of_pattern hp hx
  | sendExtra => exact (muxSel_of_sendExtra hx).trans (h hx)

/-- A record of the encoder is transferred only while the encoder is selected (R206). -/
theorem muxSel_of_recFire {s : State} (h : recFire s = true) : muxSel s = false := by
  cases hsel : muxSel s with
  | false => rfl
  | true =>
    obtain ⟨-, -, -, -, hnone⟩ := generator_selected hsel
    simp [hnone] at h

/-! ### One cycle of a burst (R203) -/

/-- An accepted repetition counts down, the last one to 0. -/
theorem repeats_generatorAfterTransfer {rpg : ResyncGenerator} (h : rpg.repeats ≠ 0) :
    1 + (generatorAfterTransfer rpg).repeats.toNat = rpg.repeats.toNat := by
  unfold generatorAfterTransfer
  split
  case isTrue hlast => simp [hlast]
  case isFalse => simp only; bv_omega

/-- With the generator selected the only transfer is the literal's. -/
theorem acceptedRecord_of_generator {s : State} (hc : configLegal s.cfg = true) (hsel : muxSel s = true) :
    acceptedRecord s = List.replicate (rpgFire s).toNat (literalOf s.cfg) := by
  obtain ⟨-, -, hfire, -⟩ := generator_selected hsel
  rw [acceptedRecord, wciBytes_of_generator hc hsel, hfire]
  cases wciFire s <;> rfl

section Burst

variable {s : State} (hr : s.inp.rst = false) (hv : s.cfg.feVariant = .parallel) (hp : s.rpg.state = .pattern)

include hr hv hp

theorem repeats_clock (h : rpgInv s) :
    (rpgFire s).toNat + (clock s).rpg.repeats.toNat = s.rpg.repeats.toNat := by
  rw [clock_rpg s hr hv, transportCycle_rpg, rpgNext_start_of_pattern hp, rpgNext_of_pattern hp]
  cases rpgFire s with
  | false => exact Nat.zero_add _
  | true => exact repeats_generatorAfterTransfer (h.mp hp)

/-- The generator stays the source of what is half taken: its selection is recorded every cycle (R207). -/
theorem noEncoderRecordBegun_clock (h : noEncoderRecordBegun s) : noEncoderRecordBegun (clock s) := fun _ => by
  rw [clock_muxSelQ s hr hv, transportCycle_muxSelQ]
  exact muxSel_of_burst hp h

end Burst

/-! ### A run of clock cycles inside a burst (R209) -/

/-- Inside a literal too, each transfer of a busy generator is one literal and one repetition less. -/
theorem burst_sends_literals (n : Nat) {s : State} (h : Inv s) (hv : s.cfg.feVariant = .parallel) (hr : noReset s)
    (hbegun : noEncoderRecordBegun s) (hbusy : ∀ k : Nat, k < n → (clockRun k s).rpg.state = .pattern) :
    ∃ m : Nat, collect acceptedRecord n s = List.replicate m (literalOf s.cfg) ∧
      m + (clockRun n s).rpg.repeats.toNat = s.rpg.repeats.toNat := by
  induction n generalizing s with
  | zero => exact ⟨0, rfl, Nat.zero_add _⟩
  | succ n ih =>
    obtain ⟨hc, -, -, -, -, -, hrpg, -⟩ := id h
    have hp : s.rpg.state = .pattern := hbusy 0 n.succ_pos
    have hrst := noReset_inp hr
    have hfirst := acceptedRecord_of_generator hc (muxSel_of_burst hp hbegun)
    have hcount := repeats_clock hrst hv hp hrpg
    obtain ⟨m, hrest, hcount'⟩ := ih (inv_clock h) (by rwa [clock_cfg]) (always_clock hr)
      (noEncoderRecordBegun_clock hrst hv hp hbegun) fun k hk => hbusy (k + 1) (Nat.succ_lt_succ hk)
    refine ⟨(rpgFire s).toNat + m, ?_, ?_⟩
    · rw [collect, hfirst, hrest, clock_cfg, List.replicate_append_replicate]
    · rw [clockRun, Nat.add_assoc, hcount', hcount]

end Sys2Proof.Machine

namespace Sys2Proof.Proofs

open Sys2Proof.Machine

/-- Settles O34: a run that begins outside a record has no record of the encoder half taken. -/
theorem burstSendsItsLiterals : Obligations.BurstSendsItsLiterals :=
  fun n _ h hv hr hn => burst_sends_literals n h hv hr fun hx => by simp [hn] at hx

/-- Settles O29, by the generator's state and the configured count. -/
theorem startBeginsABurst : Obligations.StartBeginsABurst := by
  intro s hr hv
  rw [exec_start hr hv]
  refine ⟨fun hi hn => ?begins, fun hi hz => ?noRepeats, fun hp => ?busy⟩
  case begins => rw [rpgNext_start_of_idle hi hn]
  case noRepeats => rw [rpgNext_of_no_repeats hi hz]
  case busy => rw [rpgNext_pattern_of_no_fire hp]

/-- Settles O33: a transfer of the encoder needs its selection, which a busy generator leaves it inside its record only. -/
theorem busyGeneratorExcludesTheEncoder : Obligations.BusyGeneratorExcludesTheEncoder := by
  intro s h hbusy
  obtain ⟨-, -, -, -, -, -, -, -, hmid, -⟩ := h
  have hp : s.rpg.state = .pattern := (rpgValid_iff s).mp hbusy
  have hinside (hf : recFire s = true) : s.wc.state = .sendExtra ∧ s.muxSelQ = false := by
    have hsel := muxSel_of_recFire hf
    cases hx : s.wc.state with
    | normal => simp [muxSel_of_pattern hp hx] at hsel
    | sendExtra => exact ⟨rfl, (muxSel_of_sendExtra hx).symm.trans hsel⟩
  refine ⟨fun hout => ?outside, fun hf => ?completed⟩
  case outside =>
    rw [← Bool.not_eq_true]
    intro hf
    obtain ⟨hx, -⟩ := hinside hf
    simp [wcMidRecord, hx] at hout
  case completed =>
    obtain ⟨hx, hq⟩ := hinside hf
    exact ⟨hx, hq, (length_wciBytes s).trans (recordLength_of_sendExtra hmid hx)⟩

end Sys2Proof.Proofs

end

/-! # BurstBuffer: its ports, POP, and the order of its words (R216 to R220, R224, R233, R234) -/

section

namespace Sys2Proof.Machine

/-! ### The ports (R216, R233) -/

theorem wcoReady_iff (s : State) : wcoReady s = true ↔ s.bb.queue.length < s.cfg.bbDepth := by
  rw [wcoReady, Bool.not_eq_true', ← Bool.not_eq_true, bbFull_iff, not_le]

theorem wcoFire_iff (s : State) :
    wcoFire s = true ↔ s.wc.outValid = true ∧ s.bb.queue.length < s.cfg.bbDepth := by
  rw [wcoFire, wcoValid, Bool.and_eq_true, wcoReady_iff]

theorem bbrValid_iff (s : State) : bbrValid s = true ↔ 0 < s.bb.queue.length := by
  rw [bbrValid, bbEmpty, Bool.not_eq_true', List.isEmpty_eq_false_iff, List.length_pos_iff]

theorem bbrWord_of_head {s : State} {w : Word} (h : s.bb.queue.head? = some w) : bbrWord s = w := by
  rw [bbrWord, List.headD_eq_head?_getD, h, Option.getD_some]

theorem bbrReady_iff (s : State) : bbrReady s = true ↔ s.tf.state = .fill ∧ tfTrigger s.cfg s.tf = false := by
  simp [bbrReady]

theorem bbrFire_iff (s : State) :
    bbrFire s = true ↔ 0 < s.bb.queue.length ∧ s.tf.state = .fill ∧ tfTrigger s.cfg s.tf = false := by
  rw [bbrFire, Bool.and_eq_true, bbrValid_iff, bbrReady_iff]

/-! ### POP (R218, R234) -/

theorem exec_pop {s : State} (hr : s.inp.rst = false) (hv : s.cfg.feVariant = .parallel) :
    exec .pop s = .next (readPort s) := by
  rw [exec_run hr, ← after_run hr, after_pop hr hv]

/-- While TransportFramer takes no word, POP's read port moves nothing. -/
theorem readPort_of_not_taken {s : State} (h : s.tf.state ≠ .fill ∨ tfTrigger s.cfg s.tf = true) :
    readPort s = s := by
  obtain ⟨hf, -⟩ | ⟨-, e⟩ := readPort_cases s
  · obtain ⟨-, hfill, hquiet⟩ := (bbrFire_iff s).mp hf
    rcases h with hsend | hdue
    · exact absurd hfill hsend
    · simp [hquiet] at hdue
  · exact e

/-- The head of the queue, taken by TransportFramer, stands in its accumulator at the level. -/
theorem readPort_of_head {s : State} {w : Word} {rest : List Word} (hq : s.bb.queue = w :: rest)
    (hfill : s.tf.state = .fill) (hquiet : tfTrigger s.cfg s.tf = false) :
    readPort s = { s with
      bb := { s.bb with queue := rest }
      tf := { s.tf with
        acc := s.tf.acc.set s.tf.level w
        level := s.tf.level + 1
        timer := if s.tf.level = 0 ∨ s.cfg.timerRestartOnWord = true then 0 else s.tf.timer } } := by
  have hword : bbrWord s = w := bbrWord_of_head (by rw [hq, List.head?_cons])
  obtain ⟨-, e⟩ | ⟨hf, -⟩ := readPort_cases s
  · rw [e, hword, hq]
    simp [timerOnWord]
  · have hpos : 0 < s.bb.queue.length := by rw [hq]; exact Nat.succ_pos _
    simp [(bbrFire_iff s).mpr ⟨hpos, hfill, hquiet⟩] at hf

/-! ### One clock cycle (R219, R220) -/

section Cycle

variable {s : State} (hr : s.inp.rst = false) (hv : s.cfg.feVariant = .parallel)

include hr hv

theorem clock_queue :
    (clock s).bb.queue = (if bbrFire s then s.bb.queue.tail else s.bb.queue) ++ pushedWord s := by
  rw [clock_bb s hr hv, transportCycle_bb, bbNext_queue]
  rfl

/-- The write port looks at the length before the pop, so the queue never grows past its capacity. -/
theorem clock_queue_length (h : s.bb.queue.length ≤ s.cfg.bbDepth) :
    (clock s).bb.queue.length ≤ s.cfg.bbDepth := by
  have hready : wcoReady s = decide (s.bb.queue.length < s.cfg.bbDepth) :=
    Bool.eq_iff_iff.mpr ((wcoReady_iff s).trans decide_eq_true_iff.symm)
  rw [clock_bb s hr hv, transportCycle_bb, hready]
  exact bbNext_length _ _ _ _ _ h

theorem clock_refused_toNat :
    (clock s).bb.refused.toNat =
      if s.wc.outValid = true ∧ s.cfg.bbDepth ≤ s.bb.queue.length then min (s.bb.refused.toNat + 1) (2 ^ 32 - 1)
      else s.bb.refused.toNat := by
  have hrefused :
      (wcoValid s && !wcoReady s) = true ↔ s.wc.outValid = true ∧ s.cfg.bbDepth ≤ s.bb.queue.length := by
    rw [Bool.and_eq_true, wcoReady, Bool.not_not, bbFull_iff, wcoValid]
  rw [clock_bb s hr hv, transportCycle_bb, bbNext_refused, apply_ite BitVec.toNat, saturatingIncrement_toNat]
  simp only [hrefused]

end Cycle

/-- The word that joins the queue, by the conditions of its transfer (R217). -/
theorem pushedWord_eq (s : State) :
    pushedWord s = if s.wc.outValid = true ∧ s.bb.queue.length < s.cfg.bbDepth then [s.wc.outWord] else [] := by
  simp only [pushedWord, wcoFire_iff, wcoWord]

end Sys2Proof.Machine

namespace Sys2Proof.Proofs

open Sys2Proof.Machine

/-- Settles O40, by induction on the cycles: the words of the first cycle, then those of the run that follows it. -/
theorem wordsLeaveInArrivalOrder : Obligations.WordsLeaveInArrivalOrder := by
  intro n s hr hv
  induction n generalizing s with
  | zero => exact List.append_nil _
  | succ n ih =>
    have hfirst := queue_clock (noReset_inp hr) hv
    have hrest := ih (clock s) (always_clock hr) (by rwa [clock_cfg])
    calc s.bb.queue ++ (pushedWord s ++ collect pushedWord n (clock s))
        = poppedWord s ++ ((clock s).bb.queue ++ collect pushedWord n (clock s)) := by
          rw [← List.append_assoc, hfirst, List.append_assoc]
      _ = poppedWord s ++ collect poppedWord n (clock s) ++ (clockRun n (clock s)).bb.queue := by
          rw [hrest, List.append_assoc]

/-- Settles O38: the read port while TransportFramer takes the head, and while it does not. -/
theorem popDeliversTheOldestWord : Obligations.PopDeliversTheOldestWord := by
  intro s w rest hr hv hq
  rw [exec_pop hr hv]
  exact ⟨fun hfill hquiet => congrArg _ (readPort_of_head hq hfill hquiet),
    fun hstall => congrArg _ (readPort_of_not_taken hstall)⟩

/-- Settles O39: the ports, then the queue and the counter after the cycle. -/
theorem burstBufferPushesAndPopsTogether : Obligations.BurstBufferPushesAndPopsTogether := by
  intro s hr hv
  exact ⟨wcoReady_iff s, wcoFire_iff s, bbrValid_iff s, fun _ => bbrWord_of_head, bbrFire_iff s,
    (clock_queue hr hv).trans (congrArg _ (pushedWord_eq s)), clock_queue_length hr hv, clock_refused_toNat hr hv⟩

end Sys2Proof.Proofs

end

/-! # TransportFramer: its flush, its frame words, its counter and its idle timer (R231, R232, R235 to R244, R250)

While a batch waits and no word arrives, only the idle timer and the free-running counter move. So after as many cycles as the
timeout the framer stands as it stood but for these two, the trigger is true for the first time, and the next cycle flushes. -/

section

namespace Sys2Proof.Machine

/-! ### The flush (R232, R236) -/

theorem tfTrigger_iff (c : Config) (tf : TransportFramer) :
    tfTrigger c tf = true ↔ c.depth ≤ tf.level ∨ (0 < tf.level ∧ c.idleTimeout.toNat ≤ tf.timer.toNat) := by
  simp [tfTrigger]

theorem flushIfDue_of_due {s : State} (hfill : s.tf.state = .fill) (htrig : tfTrigger s.cfg s.tf = true) :
    flushIfDue s = { s with tf := tfFlush s.tf } := if_pos ⟨hfill, htrig⟩

theorem flushIfDue_of_not_due {s : State} (h : s.tf.state ≠ .fill ∨ tfTrigger s.cfg s.tf = false) : flushIfDue s = s := by
  obtain ⟨hfill, htrig, -⟩ | ⟨-, e⟩ := flushIfDue_cases s
  · rcases h with hsend | hquiet
    · exact absurd hfill hsend
    · simp [hquiet] at htrig
  · exact e

/-! ### An accepted host word, by the state it is sent in (R241 to R244) -/

theorem tfSent_of_sendLength {tf : TransportFramer} (h : tf.state = .sendLength) :
    tfSent tf = { tf with state := .sendTimestamp } := by
  rw [tfSent, h]

theorem tfSent_of_sendTimestamp {tf : TransportFramer} (h : tf.state = .sendTimestamp) :
    tfSent tf = { tf with state := .sendBody } := by
  rw [tfSent, h]

theorem tfSent_of_last {tf : TransportFramer} (h : tf.state = .sendBody) (hlast : tf.rdIdx + 1 = tf.level) :
    tfSent tf = { tf with state := .fill, level := 0, timer := 0, rdIdx := 0 } := by
  simp [tfSent, h, tfLastWord, hlast]

theorem tfSent_of_not_last {tf : TransportFramer} (h : tf.state = .sendBody) (hlast : tf.rdIdx + 1 ≠ tf.level) :
    tfSent tf = { tf with rdIdx := tf.rdIdx + 1 } := by
  simp [tfSent, h, tfLastWord, hlast]

/-- The word that the block presents is transferred to a ready host (R231). -/
theorem hostTransfer_of_ready {s : State} {st : TfState} {w : Word} (hr : s.inp.rst = false)
    (hready : s.inp.hostReady = true) (hst : s.tf.state = st) (hsend : st ≠ .fill) (hdata : hostData s = w) :
    hostTransfer st w s = { s with tf := tfSent s.tf } := by
  have hfire : hostFire s = true := by rw [hostFire, (hostValid_iff hr).mpr (hst ▸ hsend), hready, Bool.and_self]
  exact if_pos ⟨hst, hfire, hdata⟩

/-! ### The instructions of the framer, parallel variant -/

theorem exec_eq_after {s : State} (hr : s.inp.rst = false) (i : Instr) : exec i s = .next (after i s) := by
  rw [exec_run hr, after_run hr]

section Instructions

variable {s : State} (hr : s.inp.rst = false) (hv : s.cfg.feVariant = .parallel)

include hr hv

theorem exec_flush : exec .flush s = .next (flushIfDue s) := by
  rw [exec_eq_after hr, after_flush hr hv]

theorem exec_frameLength (w : Word) : exec (.frameLength w) s = .next (hostTransfer .sendLength w s) := by
  rw [exec_eq_after hr, after_frameLength hr hv]

theorem exec_frameTimestamp (w : Word) : exec (.frameTimestamp w) s = .next (hostTransfer .sendTimestamp w s) := by
  rw [exec_eq_after hr, after_frameTimestamp hr hv]

theorem exec_framePayload (w : Word) : exec (.framePayload w) s = .next (hostTransfer .sendBody w s) := by
  rw [exec_eq_after hr, after_framePayload hr hv]

end Instructions

/-! ### A cycle that flushes and a cycle with a host transfer (R236, R241 to R245) -/

section Cycle

variable {s : State} (hr : s.inp.rst = false) (hv : s.cfg.feVariant = .parallel)

include hr hv

theorem clock_tf_of_due (hfill : s.tf.state = .fill) (htrig : tfTrigger s.cfg s.tf = true) :
    (clock s).tf = tfTick (tfFlush s.tf) := by
  rw [clock_tf s hr hv, transportCycle_tf, tfNext, tfPhase_flush hfill htrig]

theorem clock_tf_of_hostFire (hsend : s.tf.state ≠ .fill) (hfire : hostFire s = true) :
    (clock s).tf = tfTick (tfSent s.tf) := by
  rw [clock_tf s hr hv, transportCycle_tf, tfNext, tfPhase_send hsend, if_pos hfire]

end Cycle

/-! ### The free-running counter (R237) -/

theorem tfPhase_clock (c : Config) (wf : Bool) (w : Word) (hf : Bool) (tf : TransportFramer) :
    (tfPhase c wf w hf tf).clock = tf.clock := by
  obtain ⟨-, -, e⟩ | ⟨-, -, -, e⟩ | ⟨-, -, -, e⟩ | ⟨-, -, e⟩ | ⟨-, -, e⟩ := tfPhase_cases c wf w hf tf <;> rw [e]
  · rfl
  · rw [tfTimer_eq]; rfl
  · rw [tfTimer_eq]
  · exact tfSent_clock tf

theorem clock_tf_clock {s : State} (hr : s.inp.rst = false) (hv : s.cfg.feVariant = .parallel) :
    (clock s).tf.clock = s.tf.clock + 1 := by
  rw [clock_tf s hr hv, transportCycle_tf, tfNext, tfTick_clock, tfPhase_clock]

theorem readPort_tf_clock (s : State) : (readPort s).tf.clock = s.tf.clock := by
  obtain ⟨-, e⟩ | ⟨-, e⟩ := readPort_cases s <;> rw [e]

theorem flushIfDue_tf_clock (s : State) : (flushIfDue s).tf.clock = s.tf.clock := by
  obtain ⟨-, -, e⟩ | ⟨-, e⟩ := flushIfDue_cases s <;> rw [e]
  rfl

theorem hostTransfer_tf_clock (st : TfState) (w : Word) (s : State) : (hostTransfer st w s).tf.clock = s.tf.clock := by
  obtain ⟨-, -, -, e⟩ | ⟨-, e⟩ := hostTransfer_cases st w s <;> rw [e]
  exact tfSent_clock s.tf

theorem onPipeline_tf_clock {s t : State} (h : t.tf.clock = s.tf.clock) : (onPipeline s t).tf.clock = s.tf.clock := by
  obtain e | e := onPipeline_cases s t <;> rw [e]
  exact h

/-! ### The idle timer in a clock cycle (R235, R238, R244) -/

theorem tfTimer_timer (c : Config) (fire : Bool) (tf : TransportFramer) :
    (tfTimer c fire tf).timer =
      if tf.level = 0 then 0 else if c.timerRestartOnWord = true ∧ fire = true then 0 else tf.timer + 1 := by
  simp only [tfTimer, Bool.and_eq_true, apply_ite TransportFramer.timer]

/-- Only the transfer of the last body word writes the timer. -/
theorem tfSent_timer_of_not_last {tf : TransportFramer} (h : ¬(tf.state = .sendBody ∧ tf.rdIdx + 1 = tf.level)) :
    (tfSent tf).timer = tf.timer := by
  obtain ⟨-, e⟩ | ⟨-, e⟩ | ⟨-, e⟩ | ⟨hs, hlast, -⟩ | ⟨-, -, e⟩ := tfSent_cases tf
  case inr.inr.inr.inl => exact absurd ⟨hs, hlast⟩ h
  all_goals rw [e]

section Cycle

variable {s : State} (hr : s.inp.rst = false) (hv : s.cfg.feVariant = .parallel)

include hr hv

/-- An accepted word joins the batch beside the timer, which runs by the same rule with and without it. -/
theorem clock_timer_of_fill (hfill : s.tf.state = .fill) (htrig : tfTrigger s.cfg s.tf = false) :
    (clock s).tf.timer =
      if s.tf.level = 0 then 0
      else if s.cfg.timerRestartOnWord = true ∧ bbrFire s = true then 0
      else s.tf.timer + 1 := by
  rw [clock_tf s hr hv, transportCycle_tf, tfNext, tfTick_timer, tfPhase_fill hfill htrig, ← tfTimer_timer]
  cases bbrFire s <;> rfl

theorem clock_timer_of_flush (hfill : s.tf.state = .fill) (htrig : tfTrigger s.cfg s.tf = true) :
    (clock s).tf.timer = s.tf.timer := by
  rw [clock_tf_of_due hr hv hfill htrig]
  rfl

theorem clock_timer_of_last (hsend : s.tf.state ≠ .fill) (hfire : hostFire s = true) (hlast : hostLast s = true) :
    (clock s).tf.timer = 0 := by
  obtain ⟨hbody, hidx⟩ := (hostLast_iff hr).mp hlast
  rw [clock_tf_of_hostFire hr hv hsend hfire, tfTick_timer, tfSent_of_last hbody hidx]

theorem clock_timer_of_not_last (hsend : s.tf.state ≠ .fill) (h : hostFire s = false ∨ hostLast s = false) :
    (clock s).tf.timer = s.tf.timer := by
  cases hfire : hostFire s with
  | false => rw [clock_tf_of_stall hr hv hsend hfire]
  | true =>
    have hlast : ¬hostLast s = true := by simpa [hfire] using h
    rw [clock_tf_of_hostFire hr hv hsend hfire, tfTick_timer, tfSent_timer_of_not_last (mt (hostLast_iff hr).mpr hlast)]

end Cycle

/-! ### A batch that waits for its timeout (R232, R235) -/

theorem clockRun_cfg (n : Nat) (s : State) : (clockRun n s).cfg = s.cfg := by
  induction n with
  | zero => rfl
  | succ n ih => rw [clockRun_succ, clock_cfg, ih]

/-- The framer after `k` cycles in which a batch waits: only the idle timer and the free-running counter have moved. -/
def waitingFramer (tf : TransportFramer) (k : Nat) : TransportFramer :=
  { tf with timer := BitVec.ofNat 32 k, clock := tf.clock + BitVec.ofNat 32 k }

theorem waitingFramer_zero {tf : TransportFramer} (h : tf.timer = 0) : waitingFramer tf 0 = tf := by
  cases tf
  cases h
  simp [waitingFramer]

section Waiting

variable {s : State} (hv : s.cfg.feVariant = .parallel) (hr : noReset s) (hfill : s.tf.state = .fill)
  (hpos : 0 < s.tf.level) (hdepth : s.tf.level < s.cfg.depth)

include hdepth in
/-- The trigger is false in every cycle before the timeout. -/
theorem tfTrigger_waitingFramer {k : Nat} (hk : k < s.cfg.idleTimeout.toNat) :
    tfTrigger s.cfg (waitingFramer s.tf k) = false := by
  have hbound := s.cfg.idleTimeout.isLt
  have htimer : (BitVec.ofNat 32 k).toNat < s.cfg.idleTimeout.toNat := by
    rwa [BitVec.toNat_ofNat, Nat.mod_eq_of_lt (by omega)]
  exact (tfTrigger_false_iff _ _).mpr ⟨hdepth, .inr htimer⟩

include hpos in
/-- The trigger is true when the timer has reached the timeout. -/
theorem tfTrigger_waitingFramer_timeout : tfTrigger s.cfg (waitingFramer s.tf s.cfg.idleTimeout.toNat) = true :=
  (tfTrigger_iff _ _).mpr (.inr ⟨hpos, by simp [waitingFramer]⟩)

include hv hr hfill hpos hdepth in
/-- Up to the timeout the framer stands as it stood but for the timer, from 0 on, and its counter. -/
theorem clockRun_tf_of_waiting (hzero : s.tf.timer = 0) {n : Nat} (hn : n ≤ s.cfg.idleTimeout.toNat)
    (hquiet : ∀ k : Nat, k < n → bbrValid (clockRun k s) = false) : (clockRun n s).tf = waitingFramer s.tf n := by
  induction n with
  | zero => exact (waitingFramer_zero hzero).symm
  | succ n ih =>
    have htf := ih (by omega) fun k hk => hquiet k (by omega)
    have hfire : bbrFire (clockRun n s) = false := by rw [bbrFire, hquiet n (by omega), Bool.false_and]
    have htrig : tfTrigger (clockRun n s).cfg (clockRun n s).tf = false := by
      rw [clockRun_cfg, htf]
      exact tfTrigger_waitingFramer hdepth (by omega)
    have hlevel : s.tf.level ≠ 0 := by omega
    rw [clockRun_succ, clock_tf_of_fill (noReset_inp (always_clockRun n hr)) (by rwa [clockRun_cfg])
      (by rw [htf]; exact hfill) htrig hfire, htf]
    simp [waitingFramer, hlevel, BitVec.ofNat_add, BitVec.add_assoc]

end Waiting

end Sys2Proof.Machine

namespace Sys2Proof.Proofs

open Sys2Proof.Machine

/-- Settles O46: the timer case by case; and a batch waits until the timer reaches the timeout, when the next cycle flushes. -/
theorem idleBatchIsFlushedAtTheTimeout : Obligations.IdleBatchIsFlushedAtTheTimeout := by
  refine ⟨fun s hr hv => ⟨clock_timer_of_fill hr hv, clock_timer_of_flush hr hv, clock_timer_of_last hr hv,
    clock_timer_of_not_last hr hv⟩, ?_⟩
  intro s _ hv hr hfill hpos hdepth hzero hquiet
  have hwait := clockRun_tf_of_waiting hv hr hfill hpos hdepth hzero le_rfl hquiet
  have hstill : (clockRun s.cfg.idleTimeout.toNat s).tf.state = .fill := by rw [hwait]; exact hfill
  have htrig : tfTrigger (clockRun s.cfg.idleTimeout.toNat s).cfg (clockRun s.cfg.idleTimeout.toNat s).tf = true := by
    rw [clockRun_cfg, hwait]
    exact tfTrigger_waitingFramer_timeout hpos
  have hflush : (clockRun (s.cfg.idleTimeout.toNat + 1) s).tf =
      tfTick (tfFlush (waitingFramer s.tf s.cfg.idleTimeout.toNat)) := by
    rw [clockRun_succ, clock_tf_of_due (noReset_inp (always_clockRun _ hr)) (by rwa [clockRun_cfg]) hstill htrig, hwait]
  rw [hflush]
  exact ⟨hstill, rfl, rfl, by simp [tfFlush, waitingFramer]⟩

/-- Settles O41: a due flush, in the cycle and by itself; and no flush where none is due. -/
theorem flushLatchesTheHeader : Obligations.FlushLatchesTheHeader := by
  intro s hr hv
  rw [exec_flush hr hv]
  refine ⟨fun hfill hdue => ?_, fun _ hdepth htimer => ?_, fun hsend => ?_⟩
  · have htrig := (tfTrigger_iff s.cfg s.tf).mpr hdue
    refine ⟨by simp [bbrReady, htrig], ?_, by rw [flushIfDue_of_due hfill htrig]; rfl⟩
    rw [clock_tf_of_due hr hv hfill htrig]
    rfl
  · rw [flushIfDue_of_not_due (.inr ((tfTrigger_false_iff s.cfg s.tf).mpr ⟨hdepth, htimer⟩))]
  · rw [flushIfDue_of_not_due (.inl hsend)]

/-- Settles O42: each header word is the latch that the block presents in its state. -/
theorem frameHeaderWordsAreSent : Obligations.FrameHeaderWordsAreSent := by
  intro s hr hv
  rw [exec_frameLength hr hv, exec_frameTimestamp hr hv]
  refine ⟨fun hs => ?length, fun hs => ?timestamp⟩
  case length =>
    have hdata : hostData s = s.tf.lenLatch := by rw [hostData, hs]
    refine ⟨hdata, fun hready => ?_, fun hwait => congrArg _ (hostTransfer_waits (.inl hwait))⟩
    rw [hostTransfer_of_ready hr hready hs (by decide) hdata, tfSent_of_sendLength hs]
  case timestamp =>
    have hdata : hostData s = s.tf.tsLatch := by rw [hostData, hs]
    refine ⟨hdata, fun hready => ?_, fun hwait => congrArg _ (hostTransfer_waits (.inl hwait))⟩
    rw [hostTransfer_of_ready hr hready hs (by decide) hdata, tfSent_of_sendTimestamp hs]

/-- Settles O43: the word at the read index is presented and sent; whether it is the last decides what follows. -/
theorem framePayloadWordIsSent : Obligations.FramePayloadWordIsSent := by
  intro s w hr hv hready hs hw
  have hdata : hostData s = w := by simp [hostData, hs, accRead, List.getD_eq_getElem?_getD, hw]
  rw [exec_framePayload hr hv, hostTransfer_of_ready hr hready hs (by decide) hdata]
  refine ⟨hdata, fun hlast => ⟨(hostLast_iff hr).mpr ⟨hs, hlast⟩, by rw [tfSent_of_last hs hlast]⟩,
    fun hmore => ⟨?_, by rw [tfSent_of_not_last hs hmore]⟩⟩
  rw [← Bool.not_eq_true, hostLast_iff hr]
  exact fun h => hmore h.2

/-- Settles O45: a cycle counts; of the instructions that write TransportFramer at all, none writes its counter. -/
theorem freeRunningCounterOnlyCountsCycles : Obligations.FreeRunningCounterOnlyCountsCycles := by
  refine ⟨fun _ => rfl, fun _ => clock_tf_clock, fun i s t hreset hr hexec => ?_⟩
  obtain ⟨-, -, -, -, -, -, -, -, -, -, htf⟩ := operationsWriteTheirOwnComponents i s t hr hreset hexec
  rw [exec_run hr, next_inj] at hexec
  cases i with
  | pop => rw [← hexec]; exact onPipeline_tf_clock (readPort_tf_clock s)
  | flush => rw [← hexec]; exact onPipeline_tf_clock (flushIfDue_tf_clock s)
  | frameLength w => rw [← hexec]; exact onPipeline_tf_clock (hostTransfer_tf_clock _ w s)
  | frameTimestamp w => rw [← hexec]; exact onPipeline_tf_clock (hostTransfer_tf_clock _ w s)
  | framePayload w => rw [← hexec]; exact onPipeline_tf_clock (hostTransfer_tf_clock _ w s)
  | _ => rw [htf (by simp) (by simp)]

/-- Settles O48: the stalled framer only counts its clock, so what it presents is held. -/
theorem hostStallHoldsTheFrame : Obligations.HostStallHoldsTheFrame := by
  intro s hr hv hsend hwait
  have hvalid := (hostValid_iff hr).mpr hsend
  have hfire := hostFire_of_not_ready hwait
  obtain ⟨hdata, hvalid', hlast⟩ := host_word_held hr hvalid hfire
  refine ⟨clock_tf_of_stall hr hv hsend hfire, hdata, fun hr' => ⟨?_, ?_⟩⟩
  · rw [hvalid', hr', hvalid, Bool.not_false]
  · rw [hlast, hr', Bool.not_false, Bool.true_and]

end Sys2Proof.Proofs

end

/-! # Nothing stops the block (R255), and its ports in a reset cycle and in the reset state (R47, R281)

In a reset cycle `rst` masks every external handshake, whatever the registers hold. In the reset state nothing is masked: the
valids are low because every component is idle and every store empty. -/

section

namespace Sys2Proof.Machine

/-! ### Every instruction answers a next state (R255) -/

/-- An instruction acts through the clock edge, and the edge has one outcome. -/
theorem exec_answers (i : Instr) (s : State) : ∃ t : State, exec i s = .next t :=
  ⟨_, exec_eq_onEdge i s⟩

/-! ### The external handshakes in a reset cycle (R281) -/

section Masked

variable {s : State} (hr : s.inp.rst = true)

include hr

theorem capReady_of_rst : capReady s = false := by simp [capReady, hr]

theorem serValid_of_rst : serValid s = false := by simp [serValid, hr]

theorem hostValid_of_rst : hostValid s = false := by simp [hostValid, hr]

theorem hostLast_of_rst : hostLast s = false := by simp [hostLast, hr]

end Masked

/-! ### What an idle component presents -/

/-- An idle capture side with nothing pending takes a byte (R155). -/
theorem capReady_of_idle {s : State} (hr : s.inp.rst = false) (hidle : s.fe.state = .idle) (hov : s.ta.overflow = false)
    (hnew : s.el.new = false) : capReady s = true := by
  simp [capReady, hr, hidle, hov, hnew]

theorem serValid_of_idle {s : State} (hidle : s.fe.state = .idle) : serValid s = false := by simp [serValid, hidle]

theorem recValid_of_idle {s : State} (hidle : s.fe.state = .idle) : recValid s = false := by simp [recValid, hidle]

theorem rpgBusy_of_idle {s : State} (hidle : s.rpg.state = .idle) : rpgBusy s = false := by simp [rpgBusy, hidle]

/-- Whichever source the multiplexer selects, it presents nothing when neither source does (R206). -/
theorem wciValid_of_no_source {s : State} (hrpg : rpgValid s = false) (hrec : recValid s = false) :
    wciValid s = false := by
  rw [wciValid, hrpg, hrec, ite_self]

theorem hostValid_of_fill {s : State} (hfill : s.tf.state = .fill) : hostValid s = false := by simp [hostValid, hfill]

theorem bbrValid_of_empty {s : State} (hempty : s.bb.queue = []) : bbrValid s = false := by
  simp [bbrValid, bbEmpty, hempty]

end Sys2Proof.Machine

namespace Sys2Proof.Proofs

open Sys2Proof.Machine

/-- Settles O55: a step is a clock cycle or runs an instruction, the one that the encoding decodes back to. -/
theorem nothingStopsTheBlock : Obligations.NothingStopsTheBlock := by
  refine ⟨exec_answers, fun s hc hi => ⟨clock s, step_of_issue_none hc hi⟩, fun i s hc hwf hi => ?issued⟩
  case issued =>
    rw [step_of_instr hc hi (wellFormedInstructionsDecodeBack i hwf)]
    exact exec_answers i (clearIssue s)

/-- Settles O51: the ports by the mask of `rst`, the ignored event and trigger by the reset values; in the reset state every
port by its idle component. -/
theorem portsAreQuietDuringReset : Obligations.PortsAreQuietDuringReset := by
  refine ⟨fun s hr => ?cycle, fun c => ?state⟩
  case cycle =>
    obtain ⟨-, hel, -, hrpg, -⟩ := resetTakesTheResetValues.2 s (clock s) (.inr ⟨hr, rfl⟩)
    exact ⟨capReady_of_rst hr, hostValid_of_rst hr, hostLast_of_rst hr, serValid_of_rst hr, by rw [hel],
      rpgBusy_of_idle (by rw [hrpg])⟩
  case state =>
    have hbusy : rpgBusy (State.resetWith c) = false := rpgBusy_of_idle rfl
    have hrec : recValid (State.resetWith c) = false := recValid_of_idle rfl
    exact ⟨capReady_of_idle rfl rfl rfl rfl, hostValid_of_fill rfl, serValid_of_idle rfl, hrec, hbusy,
      wciValid_of_no_source hbusy hrec, rfl, bbrValid_of_empty rfl, hbusy, rfl, rfl⟩

end Sys2Proof.Proofs

end
